-- ==== Sys2Proof/Word.lean ====
section
/-! DEFINITION. The two word widths of the core (00_scope.md R6): REG_WIDTH and PAIR_WIDTH. -/

namespace Sys2Proof

/-- `u8`, the width of A, B, C, D, E, H, L, of a memory byte and of a port (R6, R7). -/
abbrev Byte := BitVec 8

/-- `u16`, the width of BC, DE, HL, SP, PC and of an address (R6, R7). -/
abbrev Word := BitVec 16

end Sys2Proof
end

