-- ==== Sys2Proof/Machine/Bits.lean ====
section
/-! DEFINITION. Bit fields and byte order: the `[hi:lo]` and `hi lo` notation of 00_scope.md R7. -/

namespace Sys2Proof

/-- The field `v[lo + len - 1 : lo]` of a byte, as a number (R7). -/
def field (v : Byte) (lo len : Nat) : Nat := (v.extractLsb' lo len).toNat

/-- The 16-bit value `hi * 256 + lo` (R7): the pair concatenation `B<<8 | C` of R31. -/
def pairOf (hi lo : Byte) : Word := hi.setWidth 16 <<< 8 ||| lo.setWidth 16

/-- `v[15:8]` (R7). -/
def hiByte (v : Word) : Byte := v.extractLsb' 8 8

/-- `v[7:0]` (R7). -/
def loByte (v : Word) : Byte := v.extractLsb' 0 8

/-- The byte whose bit `k` is `b` and whose other bits are 0: `b << k`. -/
def bitAt (b : Bool) (k : Nat) : Byte := (BitVec.ofBool b).setWidth 8 <<< k

end Sys2Proof
end

