-- ==== Sys2Proof/Syntax.lean ====
section
/-! DEFINITION. The instruction set as syntax: the operand codes of 30_encoding.md R105-R108 and one constructor per row of
spec/opcode_table.json (R109), with the functions that name the instruction of each operand. -/

namespace Sys2Proof

/-- The seven 8-bit registers (R30), in the order of their codes (R105). -/
inductive Reg where
  | b | c | d | e | h | l | a
  deriving DecidableEq, Repr

/-- An 8-bit operand (R105): a register, or M, the byte at HL. -/
inductive Operand where
  | reg (r : Reg)
  | m
  deriving DecidableEq, Repr

/-- The pairs of LXI, INX, DCX and DAD (R106). -/
inductive Pair where
  | bc | de | hl | sp
  deriving DecidableEq, Repr

/-- The pairs of PUSH and POP (R106). -/
inductive StackPair where
  | bc | de | hl | psw
  deriving DecidableEq, Repr

/-- The pairs of LDAX and STAX (R106). -/
inductive IndexPair where
  | bc | de
  deriving DecidableEq, Repr

/-- The eight conditions (R107). -/
inductive Cond where
  | nz | z | nc | c | po | pe | p | m
  deriving DecidableEq, Repr

/-- The eight 8-bit operations (R108). -/
inductive AluOp where
  | add | adc | sub | sbb | ana | xra | ora | cmp
  deriving DecidableEq, Repr

/-- One constructor per row of spec/opcode_table.json, the 244 documented rows in the table's order, named by their Intel
spelling (R115): `movBC` is MOV B,C. `imm` is imm8 in a 2-byte row and imm16 in a 3-byte row (R103). The last twelve are the
illegal bytes (R112), named by their byte. -/
inductive Instr where
  | nop
  | lxiB (imm : Word)
  | staxB
  | inxB
  | inrB
  | dcrB
  | mviB (imm : Byte)
  | rlc
  | dadB
  | ldaxB
  | dcxB
  | inrC
  | dcrC
  | mviC (imm : Byte)
  | rrc
  | lxiD (imm : Word)
  | staxD
  | inxD
  | inrD
  | dcrD
  | mviD (imm : Byte)
  | ral
  | dadD
  | ldaxD
  | dcxD
  | inrE
  | dcrE
  | mviE (imm : Byte)
  | rar
  | lxiH (imm : Word)
  | shld (imm : Word)
  | inxH
  | inrH
  | dcrH
  | mviH (imm : Byte)
  | daa
  | dadH
  | lhld (imm : Word)
  | dcxH
  | inrL
  | dcrL
  | mviL (imm : Byte)
  | cma
  | lxiSp (imm : Word)
  | sta (imm : Word)
  | inxSp
  | inrM
  | dcrM
  | mviM (imm : Byte)
  | stc
  | dadSp
  | lda (imm : Word)
  | dcxSp
  | inrA
  | dcrA
  | mviA (imm : Byte)
  | cmc
  | movBB
  | movBC
  | movBD
  | movBE
  | movBH
  | movBL
  | movBM
  | movBA
  | movCB
  | movCC
  | movCD
  | movCE
  | movCH
  | movCL
  | movCM
  | movCA
  | movDB
  | movDC
  | movDD
  | movDE
  | movDH
  | movDL
  | movDM
  | movDA
  | movEB
  | movEC
  | movED
  | movEE
  | movEH
  | movEL
  | movEM
  | movEA
  | movHB
  | movHC
  | movHD
  | movHE
  | movHH
  | movHL
  | movHM
  | movHA
  | movLB
  | movLC
  | movLD
  | movLE
  | movLH
  | movLL
  | movLM
  | movLA
  | movMB
  | movMC
  | movMD
  | movME
  | movMH
  | movML
  | hlt
  | movMA
  | movAB
  | movAC
  | movAD
  | movAE
  | movAH
  | movAL
  | movAM
  | movAA
  | addB
  | addC
  | addD
  | addE
  | addH
  | addL
  | addM
  | addA
  | adcB
  | adcC
  | adcD
  | adcE
  | adcH
  | adcL
  | adcM
  | adcA
  | subB
  | subC
  | subD
  | subE
  | subH
  | subL
  | subM
  | subA
  | sbbB
  | sbbC
  | sbbD
  | sbbE
  | sbbH
  | sbbL
  | sbbM
  | sbbA
  | anaB
  | anaC
  | anaD
  | anaE
  | anaH
  | anaL
  | anaM
  | anaA
  | xraB
  | xraC
  | xraD
  | xraE
  | xraH
  | xraL
  | xraM
  | xraA
  | oraB
  | oraC
  | oraD
  | oraE
  | oraH
  | oraL
  | oraM
  | oraA
  | cmpB
  | cmpC
  | cmpD
  | cmpE
  | cmpH
  | cmpL
  | cmpM
  | cmpA
  | rnz
  | popB
  | jnz (imm : Word)
  | jmp (imm : Word)
  | cnz (imm : Word)
  | pushB
  | adi (imm : Byte)
  | rst0
  | rz
  | ret
  | jz (imm : Word)
  | cz (imm : Word)
  | call (imm : Word)
  | aci (imm : Byte)
  | rst1
  | rnc
  | popD
  | jnc (imm : Word)
  | outPort (imm : Byte)
  | cnc (imm : Word)
  | pushD
  | sui (imm : Byte)
  | rst2
  | rc
  | jc (imm : Word)
  | inPort (imm : Byte)
  | cc (imm : Word)
  | sbi (imm : Byte)
  | rst3
  | rpo
  | popH
  | jpo (imm : Word)
  | xthl
  | cpo (imm : Word)
  | pushH
  | ani (imm : Byte)
  | rst4
  | rpe
  | pchl
  | jpe (imm : Word)
  | xchg
  | cpe (imm : Word)
  | xri (imm : Byte)
  | rst5
  | rp
  | popPsw
  | jp (imm : Word)
  | di
  | cp (imm : Word)
  | pushPsw
  | ori (imm : Byte)
  | rst6
  | rm
  | sphl
  | jm (imm : Word)
  | ei
  | cm (imm : Word)
  | cpi (imm : Byte)
  | rst7
  | illegal08
  | illegal10
  | illegal18
  | illegal20
  | illegal28
  | illegal30
  | illegal38
  | illegalCB
  | illegalD9
  | illegalDD
  | illegalED
  | illegalFD
  deriving DecidableEq, Repr

/-- MOV (R109, R110): the operand pair M,M is HLT. -/
def movInstr : Operand → Operand → Instr
  | .reg .b, .reg .b => .movBB
  | .reg .b, .reg .c => .movBC
  | .reg .b, .reg .d => .movBD
  | .reg .b, .reg .e => .movBE
  | .reg .b, .reg .h => .movBH
  | .reg .b, .reg .l => .movBL
  | .reg .b, .m => .movBM
  | .reg .b, .reg .a => .movBA
  | .reg .c, .reg .b => .movCB
  | .reg .c, .reg .c => .movCC
  | .reg .c, .reg .d => .movCD
  | .reg .c, .reg .e => .movCE
  | .reg .c, .reg .h => .movCH
  | .reg .c, .reg .l => .movCL
  | .reg .c, .m => .movCM
  | .reg .c, .reg .a => .movCA
  | .reg .d, .reg .b => .movDB
  | .reg .d, .reg .c => .movDC
  | .reg .d, .reg .d => .movDD
  | .reg .d, .reg .e => .movDE
  | .reg .d, .reg .h => .movDH
  | .reg .d, .reg .l => .movDL
  | .reg .d, .m => .movDM
  | .reg .d, .reg .a => .movDA
  | .reg .e, .reg .b => .movEB
  | .reg .e, .reg .c => .movEC
  | .reg .e, .reg .d => .movED
  | .reg .e, .reg .e => .movEE
  | .reg .e, .reg .h => .movEH
  | .reg .e, .reg .l => .movEL
  | .reg .e, .m => .movEM
  | .reg .e, .reg .a => .movEA
  | .reg .h, .reg .b => .movHB
  | .reg .h, .reg .c => .movHC
  | .reg .h, .reg .d => .movHD
  | .reg .h, .reg .e => .movHE
  | .reg .h, .reg .h => .movHH
  | .reg .h, .reg .l => .movHL
  | .reg .h, .m => .movHM
  | .reg .h, .reg .a => .movHA
  | .reg .l, .reg .b => .movLB
  | .reg .l, .reg .c => .movLC
  | .reg .l, .reg .d => .movLD
  | .reg .l, .reg .e => .movLE
  | .reg .l, .reg .h => .movLH
  | .reg .l, .reg .l => .movLL
  | .reg .l, .m => .movLM
  | .reg .l, .reg .a => .movLA
  | .m, .reg .b => .movMB
  | .m, .reg .c => .movMC
  | .m, .reg .d => .movMD
  | .m, .reg .e => .movME
  | .m, .reg .h => .movMH
  | .m, .reg .l => .movML
  | .m, .m => .hlt
  | .m, .reg .a => .movMA
  | .reg .a, .reg .b => .movAB
  | .reg .a, .reg .c => .movAC
  | .reg .a, .reg .d => .movAD
  | .reg .a, .reg .e => .movAE
  | .reg .a, .reg .h => .movAH
  | .reg .a, .reg .l => .movAL
  | .reg .a, .m => .movAM
  | .reg .a, .reg .a => .movAA

/-- The register and M forms of the eight operations (R108, R109). -/
def aluInstr : AluOp → Operand → Instr
  | .add, .reg .b => .addB
  | .add, .reg .c => .addC
  | .add, .reg .d => .addD
  | .add, .reg .e => .addE
  | .add, .reg .h => .addH
  | .add, .reg .l => .addL
  | .add, .m => .addM
  | .add, .reg .a => .addA
  | .adc, .reg .b => .adcB
  | .adc, .reg .c => .adcC
  | .adc, .reg .d => .adcD
  | .adc, .reg .e => .adcE
  | .adc, .reg .h => .adcH
  | .adc, .reg .l => .adcL
  | .adc, .m => .adcM
  | .adc, .reg .a => .adcA
  | .sub, .reg .b => .subB
  | .sub, .reg .c => .subC
  | .sub, .reg .d => .subD
  | .sub, .reg .e => .subE
  | .sub, .reg .h => .subH
  | .sub, .reg .l => .subL
  | .sub, .m => .subM
  | .sub, .reg .a => .subA
  | .sbb, .reg .b => .sbbB
  | .sbb, .reg .c => .sbbC
  | .sbb, .reg .d => .sbbD
  | .sbb, .reg .e => .sbbE
  | .sbb, .reg .h => .sbbH
  | .sbb, .reg .l => .sbbL
  | .sbb, .m => .sbbM
  | .sbb, .reg .a => .sbbA
  | .ana, .reg .b => .anaB
  | .ana, .reg .c => .anaC
  | .ana, .reg .d => .anaD
  | .ana, .reg .e => .anaE
  | .ana, .reg .h => .anaH
  | .ana, .reg .l => .anaL
  | .ana, .m => .anaM
  | .ana, .reg .a => .anaA
  | .xra, .reg .b => .xraB
  | .xra, .reg .c => .xraC
  | .xra, .reg .d => .xraD
  | .xra, .reg .e => .xraE
  | .xra, .reg .h => .xraH
  | .xra, .reg .l => .xraL
  | .xra, .m => .xraM
  | .xra, .reg .a => .xraA
  | .ora, .reg .b => .oraB
  | .ora, .reg .c => .oraC
  | .ora, .reg .d => .oraD
  | .ora, .reg .e => .oraE
  | .ora, .reg .h => .oraH
  | .ora, .reg .l => .oraL
  | .ora, .m => .oraM
  | .ora, .reg .a => .oraA
  | .cmp, .reg .b => .cmpB
  | .cmp, .reg .c => .cmpC
  | .cmp, .reg .d => .cmpD
  | .cmp, .reg .e => .cmpE
  | .cmp, .reg .h => .cmpH
  | .cmp, .reg .l => .cmpL
  | .cmp, .m => .cmpM
  | .cmp, .reg .a => .cmpA

/-- The immediate forms of the eight operations (R108). -/
def aluImmInstr : AluOp → Byte → Instr
  | .add, v => .adi v
  | .adc, v => .aci v
  | .sub, v => .sui v
  | .sbb, v => .sbi v
  | .ana, v => .ani v
  | .xra, v => .xri v
  | .ora, v => .ori v
  | .cmp, v => .cpi v

/-- INR of a register or of M. -/
def inrInstr : Operand → Instr
  | .reg .b => .inrB
  | .reg .c => .inrC
  | .reg .d => .inrD
  | .reg .e => .inrE
  | .reg .h => .inrH
  | .reg .l => .inrL
  | .m => .inrM
  | .reg .a => .inrA

/-- DCR of a register or of M. -/
def dcrInstr : Operand → Instr
  | .reg .b => .dcrB
  | .reg .c => .dcrC
  | .reg .d => .dcrD
  | .reg .e => .dcrE
  | .reg .h => .dcrH
  | .reg .l => .dcrL
  | .m => .dcrM
  | .reg .a => .dcrA

/-- MVI into a register or into M. -/
def mviInstr : Operand → Byte → Instr
  | .reg .b, v => .mviB v
  | .reg .c, v => .mviC v
  | .reg .d, v => .mviD v
  | .reg .e, v => .mviE v
  | .reg .h, v => .mviH v
  | .reg .l, v => .mviL v
  | .m, v => .mviM v
  | .reg .a, v => .mviA v

/-- LXI (R106). -/
def lxiInstr : Pair → Word → Instr
  | .bc, v => .lxiB v
  | .de, v => .lxiD v
  | .hl, v => .lxiH v
  | .sp, v => .lxiSp v

/-- INX (R106). -/
def inxInstr : Pair → Instr
  | .bc => .inxB
  | .de => .inxD
  | .hl => .inxH
  | .sp => .inxSp

/-- DCX (R106). -/
def dcxInstr : Pair → Instr
  | .bc => .dcxB
  | .de => .dcxD
  | .hl => .dcxH
  | .sp => .dcxSp

/-- DAD (R106). -/
def dadInstr : Pair → Instr
  | .bc => .dadB
  | .de => .dadD
  | .hl => .dadH
  | .sp => .dadSp

/-- LDAX (R106). -/
def ldaxInstr : IndexPair → Instr
  | .bc => .ldaxB
  | .de => .ldaxD

/-- STAX (R106). -/
def staxInstr : IndexPair → Instr
  | .bc => .staxB
  | .de => .staxD

/-- PUSH of a pair or of the PSW (R106). -/
def pushInstr : StackPair → Instr
  | .bc => .pushB
  | .de => .pushD
  | .hl => .pushH
  | .psw => .pushPsw

/-- POP of a pair or of the PSW (R106). -/
def popInstr : StackPair → Instr
  | .bc => .popB
  | .de => .popD
  | .hl => .popH
  | .psw => .popPsw

/-- Jcc (R107). -/
def jccInstr : Cond → Word → Instr
  | .nz, v => .jnz v
  | .z, v => .jz v
  | .nc, v => .jnc v
  | .c, v => .jc v
  | .po, v => .jpo v
  | .pe, v => .jpe v
  | .p, v => .jp v
  | .m, v => .jm v

/-- Ccc (R107). -/
def cccInstr : Cond → Word → Instr
  | .nz, v => .cnz v
  | .z, v => .cz v
  | .nc, v => .cnc v
  | .c, v => .cc v
  | .po, v => .cpo v
  | .pe, v => .cpe v
  | .p, v => .cp v
  | .m, v => .cm v

/-- Rcc (R107). -/
def rccInstr : Cond → Instr
  | .nz => .rnz
  | .z => .rz
  | .nc => .rnc
  | .c => .rc
  | .po => .rpo
  | .pe => .rpe
  | .p => .rp
  | .m => .rm

/-- RST n (R261). -/
def rstInstr : Fin 8 → Instr
  | 0 => .rst0
  | 1 => .rst1
  | 2 => .rst2
  | 3 => .rst3
  | 4 => .rst4
  | 5 => .rst5
  | 6 => .rst6
  | 7 => .rst7

end Sys2Proof
end

