-- ==== Sys2Proof/Decode.lean ====
section
/-! DEFINITION. Decoding by the fields of the opcode byte (30_encoding.md R100-R108, R112), then an encoder written from the
opcode map (R109), and the reading of one word of spec/opcode_table.json. -/

namespace Sys2Proof

/-- The register code (R105). -/
def operandOf : Nat → Operand
  | 0 => .reg .b
  | 1 => .reg .c
  | 2 => .reg .d
  | 3 => .reg .e
  | 4 => .reg .h
  | 5 => .reg .l
  | 6 => .m
  | _ => .reg .a

/-- The register pair code of LXI, INX, DCX and DAD (R106). -/
def pairCode : Nat → Pair
  | 0 => .bc
  | 1 => .de
  | 2 => .hl
  | _ => .sp

/-- The register pair code of PUSH and POP (R106). -/
def stackPairCode : Nat → StackPair
  | 0 => .bc
  | 1 => .de
  | 2 => .hl
  | _ => .psw

/-- The condition code (R107). -/
def condCode : Nat → Cond
  | 0 => .nz
  | 1 => .z
  | 2 => .nc
  | 3 => .c
  | 4 => .po
  | 5 => .pe
  | 6 => .p
  | _ => .m

/-- The ALU operation code (R108). -/
def aluCode : Nat → AluOp
  | 0 => .add
  | 1 => .adc
  | 2 => .sub
  | 3 => .sbb
  | 4 => .ana
  | 5 => .xra
  | 6 => .ora
  | _ => .cmp

/-- The restart number (R101, R261). -/
def rstCode : Nat → Fin 8
  | 0 => 0
  | 1 => 1
  | 2 => 2
  | 3 => 3
  | 4 => 4
  | 5 => 5
  | 6 => 6
  | _ => 7

/-- The quarter `grp = 00` of the map (R101, R109): `mid` is op[5:3], `low` is op[2:0]; `mid / 2` is rp and `mid % 2` is q. -/
def decodeGroup0 (mid low : Nat) (b1 b2 : Byte) : Instr :=
  match low with
  | 0 =>
    match mid with
    | 0 => .nop
    | 1 => .illegal08
    | 2 => .illegal10
    | 3 => .illegal18
    | 4 => .illegal20
    | 5 => .illegal28
    | 6 => .illegal30
    | _ => .illegal38
  | 1 => if mid % 2 = 0 then lxiInstr (pairCode (mid / 2)) (pairOf b2 b1) else dadInstr (pairCode (mid / 2))
  | 2 =>
    match mid with
    | 0 => staxInstr .bc
    | 1 => ldaxInstr .bc
    | 2 => staxInstr .de
    | 3 => ldaxInstr .de
    | 4 => .shld (pairOf b2 b1)
    | 5 => .lhld (pairOf b2 b1)
    | 6 => .sta (pairOf b2 b1)
    | _ => .lda (pairOf b2 b1)
  | 3 => if mid % 2 = 0 then inxInstr (pairCode (mid / 2)) else dcxInstr (pairCode (mid / 2))
  | 4 => inrInstr (operandOf mid)
  | 5 => dcrInstr (operandOf mid)
  | 6 => mviInstr (operandOf mid) b1
  | _ =>
    match mid with
    | 0 => .rlc
    | 1 => .rrc
    | 2 => .ral
    | 3 => .rar
    | 4 => .daa
    | 5 => .cma
    | 6 => .stc
    | _ => .cmc

/-- The quarter `grp = 11` of the map (R101, R109). -/
def decodeGroup3 (mid low : Nat) (b1 b2 : Byte) : Instr :=
  match low with
  | 0 => rccInstr (condCode mid)
  | 1 =>
    match mid with
    | 1 => .ret
    | 3 => .illegalD9
    | 5 => .pchl
    | 7 => .sphl
    | _ => popInstr (stackPairCode (mid / 2))
  | 2 => jccInstr (condCode mid) (pairOf b2 b1)
  | 3 =>
    match mid with
    | 0 => .jmp (pairOf b2 b1)
    | 1 => .illegalCB
    | 2 => .outPort b1
    | 3 => .inPort b1
    | 4 => .xthl
    | 5 => .xchg
    | 6 => .di
    | _ => .ei
  | 4 => cccInstr (condCode mid) (pairOf b2 b1)
  | 5 =>
    match mid with
    | 1 => .call (pairOf b2 b1)
    | 3 => .illegalDD
    | 5 => .illegalED
    | 7 => .illegalFD
    | _ => pushInstr (stackPairCode (mid / 2))
  | 6 => aluImmInstr (aluCode mid) b1
  | _ => rstInstr (rstCode mid)

/-- The instruction of the opcode byte `op` whose operand bytes, if it has any, are `b1` and `b2` (R100, R101). Total: every
byte has exactly one row (R110), 0x76 being HLT. -/
def decodeOp (op b1 b2 : Byte) : Instr :=
  match field op 6 2 with
  | 0 => decodeGroup0 (field op 3 3) (field op 0 3) b1 b2
  | 1 => movInstr (operandOf (field op 3 3)) (operandOf (field op 0 3))
  | 2 => aluInstr (aluCode (field op 3 3)) (operandOf (field op 0 3))
  | _ => decodeGroup3 (field op 3 3) (field op 0 3) b1 b2

/-- The byte length, told from the opcode byte alone (R100, R104). -/
def lengthOf (op : Byte) : Nat :=
  match field op 6 2, field op 0 3 with
  | 0, 1 => if field op 3 1 = 0 then 3 else 1
  | 0, 2 => if field op 5 1 = 1 then 3 else 1
  | 0, 6 => 2
  | 3, 2 => 3
  | 3, 3 => if op = 0xC3 then 3 else if op = 0xD3 ∨ op = 0xDB then 2 else 1
  | 3, 4 => 3
  | 3, 5 => if op = 0xCD then 3 else 1
  | 3, 6 => 2
  | _, _ => 1

/-- Why a list of bytes is no instruction. No byte value is refused (R113): only bytes can be missing. -/
inductive DecodeError where
  /-- there is no opcode byte -/
  | noOpcode
  /-- the opcode `op` has operand bytes that are not there -/
  | missingOperand (op : Byte)
  deriving DecidableEq, Repr

/-- Read one instruction from the front of a list of bytes, and what is left of the list (R100, R103). -/
def decode : List Byte → Except DecodeError (Instr × List Byte)
  | [] => .error .noOpcode
  | op :: rest =>
    match lengthOf op, rest with
    | 2, b1 :: more => .ok (decodeOp op b1 0, more)
    | 3, b1 :: b2 :: more => .ok (decodeOp op b1 b2, more)
    | 2, [] => .error (.missingOperand op)
    | 3, _ => .error (.missingOperand op)
    | _, more => .ok (decodeOp op 0 0, more)

/-- The bytes of an instruction: its cell of the opcode map (R109), then its operand, low byte first (R103). -/
def encode : Instr → List Byte
  | .nop => [0x00]
  | .lxiB imm => [0x01, loByte imm, hiByte imm]
  | .staxB => [0x02]
  | .inxB => [0x03]
  | .inrB => [0x04]
  | .dcrB => [0x05]
  | .mviB imm => [0x06, imm]
  | .rlc => [0x07]
  | .illegal08 => [0x08]
  | .dadB => [0x09]
  | .ldaxB => [0x0A]
  | .dcxB => [0x0B]
  | .inrC => [0x0C]
  | .dcrC => [0x0D]
  | .mviC imm => [0x0E, imm]
  | .rrc => [0x0F]
  | .illegal10 => [0x10]
  | .lxiD imm => [0x11, loByte imm, hiByte imm]
  | .staxD => [0x12]
  | .inxD => [0x13]
  | .inrD => [0x14]
  | .dcrD => [0x15]
  | .mviD imm => [0x16, imm]
  | .ral => [0x17]
  | .illegal18 => [0x18]
  | .dadD => [0x19]
  | .ldaxD => [0x1A]
  | .dcxD => [0x1B]
  | .inrE => [0x1C]
  | .dcrE => [0x1D]
  | .mviE imm => [0x1E, imm]
  | .rar => [0x1F]
  | .illegal20 => [0x20]
  | .lxiH imm => [0x21, loByte imm, hiByte imm]
  | .shld imm => [0x22, loByte imm, hiByte imm]
  | .inxH => [0x23]
  | .inrH => [0x24]
  | .dcrH => [0x25]
  | .mviH imm => [0x26, imm]
  | .daa => [0x27]
  | .illegal28 => [0x28]
  | .dadH => [0x29]
  | .lhld imm => [0x2A, loByte imm, hiByte imm]
  | .dcxH => [0x2B]
  | .inrL => [0x2C]
  | .dcrL => [0x2D]
  | .mviL imm => [0x2E, imm]
  | .cma => [0x2F]
  | .illegal30 => [0x30]
  | .lxiSp imm => [0x31, loByte imm, hiByte imm]
  | .sta imm => [0x32, loByte imm, hiByte imm]
  | .inxSp => [0x33]
  | .inrM => [0x34]
  | .dcrM => [0x35]
  | .mviM imm => [0x36, imm]
  | .stc => [0x37]
  | .illegal38 => [0x38]
  | .dadSp => [0x39]
  | .lda imm => [0x3A, loByte imm, hiByte imm]
  | .dcxSp => [0x3B]
  | .inrA => [0x3C]
  | .dcrA => [0x3D]
  | .mviA imm => [0x3E, imm]
  | .cmc => [0x3F]
  | .movBB => [0x40]
  | .movBC => [0x41]
  | .movBD => [0x42]
  | .movBE => [0x43]
  | .movBH => [0x44]
  | .movBL => [0x45]
  | .movBM => [0x46]
  | .movBA => [0x47]
  | .movCB => [0x48]
  | .movCC => [0x49]
  | .movCD => [0x4A]
  | .movCE => [0x4B]
  | .movCH => [0x4C]
  | .movCL => [0x4D]
  | .movCM => [0x4E]
  | .movCA => [0x4F]
  | .movDB => [0x50]
  | .movDC => [0x51]
  | .movDD => [0x52]
  | .movDE => [0x53]
  | .movDH => [0x54]
  | .movDL => [0x55]
  | .movDM => [0x56]
  | .movDA => [0x57]
  | .movEB => [0x58]
  | .movEC => [0x59]
  | .movED => [0x5A]
  | .movEE => [0x5B]
  | .movEH => [0x5C]
  | .movEL => [0x5D]
  | .movEM => [0x5E]
  | .movEA => [0x5F]
  | .movHB => [0x60]
  | .movHC => [0x61]
  | .movHD => [0x62]
  | .movHE => [0x63]
  | .movHH => [0x64]
  | .movHL => [0x65]
  | .movHM => [0x66]
  | .movHA => [0x67]
  | .movLB => [0x68]
  | .movLC => [0x69]
  | .movLD => [0x6A]
  | .movLE => [0x6B]
  | .movLH => [0x6C]
  | .movLL => [0x6D]
  | .movLM => [0x6E]
  | .movLA => [0x6F]
  | .movMB => [0x70]
  | .movMC => [0x71]
  | .movMD => [0x72]
  | .movME => [0x73]
  | .movMH => [0x74]
  | .movML => [0x75]
  | .hlt => [0x76]
  | .movMA => [0x77]
  | .movAB => [0x78]
  | .movAC => [0x79]
  | .movAD => [0x7A]
  | .movAE => [0x7B]
  | .movAH => [0x7C]
  | .movAL => [0x7D]
  | .movAM => [0x7E]
  | .movAA => [0x7F]
  | .addB => [0x80]
  | .addC => [0x81]
  | .addD => [0x82]
  | .addE => [0x83]
  | .addH => [0x84]
  | .addL => [0x85]
  | .addM => [0x86]
  | .addA => [0x87]
  | .adcB => [0x88]
  | .adcC => [0x89]
  | .adcD => [0x8A]
  | .adcE => [0x8B]
  | .adcH => [0x8C]
  | .adcL => [0x8D]
  | .adcM => [0x8E]
  | .adcA => [0x8F]
  | .subB => [0x90]
  | .subC => [0x91]
  | .subD => [0x92]
  | .subE => [0x93]
  | .subH => [0x94]
  | .subL => [0x95]
  | .subM => [0x96]
  | .subA => [0x97]
  | .sbbB => [0x98]
  | .sbbC => [0x99]
  | .sbbD => [0x9A]
  | .sbbE => [0x9B]
  | .sbbH => [0x9C]
  | .sbbL => [0x9D]
  | .sbbM => [0x9E]
  | .sbbA => [0x9F]
  | .anaB => [0xA0]
  | .anaC => [0xA1]
  | .anaD => [0xA2]
  | .anaE => [0xA3]
  | .anaH => [0xA4]
  | .anaL => [0xA5]
  | .anaM => [0xA6]
  | .anaA => [0xA7]
  | .xraB => [0xA8]
  | .xraC => [0xA9]
  | .xraD => [0xAA]
  | .xraE => [0xAB]
  | .xraH => [0xAC]
  | .xraL => [0xAD]
  | .xraM => [0xAE]
  | .xraA => [0xAF]
  | .oraB => [0xB0]
  | .oraC => [0xB1]
  | .oraD => [0xB2]
  | .oraE => [0xB3]
  | .oraH => [0xB4]
  | .oraL => [0xB5]
  | .oraM => [0xB6]
  | .oraA => [0xB7]
  | .cmpB => [0xB8]
  | .cmpC => [0xB9]
  | .cmpD => [0xBA]
  | .cmpE => [0xBB]
  | .cmpH => [0xBC]
  | .cmpL => [0xBD]
  | .cmpM => [0xBE]
  | .cmpA => [0xBF]
  | .rnz => [0xC0]
  | .popB => [0xC1]
  | .jnz imm => [0xC2, loByte imm, hiByte imm]
  | .jmp imm => [0xC3, loByte imm, hiByte imm]
  | .cnz imm => [0xC4, loByte imm, hiByte imm]
  | .pushB => [0xC5]
  | .adi imm => [0xC6, imm]
  | .rst0 => [0xC7]
  | .rz => [0xC8]
  | .ret => [0xC9]
  | .jz imm => [0xCA, loByte imm, hiByte imm]
  | .illegalCB => [0xCB]
  | .cz imm => [0xCC, loByte imm, hiByte imm]
  | .call imm => [0xCD, loByte imm, hiByte imm]
  | .aci imm => [0xCE, imm]
  | .rst1 => [0xCF]
  | .rnc => [0xD0]
  | .popD => [0xD1]
  | .jnc imm => [0xD2, loByte imm, hiByte imm]
  | .outPort imm => [0xD3, imm]
  | .cnc imm => [0xD4, loByte imm, hiByte imm]
  | .pushD => [0xD5]
  | .sui imm => [0xD6, imm]
  | .rst2 => [0xD7]
  | .rc => [0xD8]
  | .illegalD9 => [0xD9]
  | .jc imm => [0xDA, loByte imm, hiByte imm]
  | .inPort imm => [0xDB, imm]
  | .cc imm => [0xDC, loByte imm, hiByte imm]
  | .illegalDD => [0xDD]
  | .sbi imm => [0xDE, imm]
  | .rst3 => [0xDF]
  | .rpo => [0xE0]
  | .popH => [0xE1]
  | .jpo imm => [0xE2, loByte imm, hiByte imm]
  | .xthl => [0xE3]
  | .cpo imm => [0xE4, loByte imm, hiByte imm]
  | .pushH => [0xE5]
  | .ani imm => [0xE6, imm]
  | .rst4 => [0xE7]
  | .rpe => [0xE8]
  | .pchl => [0xE9]
  | .jpe imm => [0xEA, loByte imm, hiByte imm]
  | .xchg => [0xEB]
  | .cpe imm => [0xEC, loByte imm, hiByte imm]
  | .illegalED => [0xED]
  | .xri imm => [0xEE, imm]
  | .rst5 => [0xEF]
  | .rp => [0xF0]
  | .popPsw => [0xF1]
  | .jp imm => [0xF2, loByte imm, hiByte imm]
  | .di => [0xF3]
  | .cp imm => [0xF4, loByte imm, hiByte imm]
  | .pushPsw => [0xF5]
  | .ori imm => [0xF6, imm]
  | .rst6 => [0xF7]
  | .rm => [0xF8]
  | .sphl => [0xF9]
  | .jm imm => [0xFA, loByte imm, hiByte imm]
  | .ei => [0xFB]
  | .cm imm => [0xFC, loByte imm, hiByte imm]
  | .illegalFD => [0xFD]
  | .cpi imm => [0xFE, imm]
  | .rst7 => [0xFF]

/-- The opcode byte of an instruction (R109). -/
def Instr.opcode (i : Instr) : Byte := (encode i).headD 0

/-- The three bytes that a word of `nbits` bits of spec/opcode_table.json stands for, the first in its low 8 bits; the bits
above `nbits` are 0. -/
def tableBytes (nbits w : Nat) : List Byte :=
  [BitVec.ofNat 8 (w % 2 ^ nbits), BitVec.ofNat 8 (w % 2 ^ nbits / 256), BitVec.ofNat 8 (w % 2 ^ nbits / 65536)]

/-- What the decoder reads from a word numbered as spec/opcode_table.json numbers it. -/
def decodeTableWord (nbits w : Nat) : Option Instr :=
  match decode (tableBytes nbits w) with
  | .ok (i, _) => some i
  | .error _ => none

end Sys2Proof
end

