-- ==== Sys2Proof/Config.lean ====
section
/-! DEFINITION. What an implementation fixes, and the free values (00_scope.md R6). -/

namespace Sys2Proof

/-- FREE VALUE (R381, U1; log 4): the 8-bit RESET_DRAW values that a reset by OUT 6 puts into the registers.
No body: nothing about them can be proved. -/
opaque Config.resetByte : Nat → Byte

/-- FREE VALUE (R381, U1; log 4): the RESET_DRAW value of SP. -/
opaque Config.resetWord : Nat → Word

/-- FREE VALUE (R381, U1; log 4): the RESET_DRAW values of the five flags. -/
opaque Config.resetFlag : Nat → Bool

/-- PARAMETER `HALT_IDLE_CYCLES` (R6, R131, D31; log 8): the count a step reports while halted. The spec's default is 4; no body,
so that what is proved holds for every value. -/
opaque Config.haltIdleCycles : Nat

/-- `ROM_HI` (R6, R74): the last address of the write-protected region. -/
def Config.romHi : Nat := 0x1FFF

/-- What a byte of memory that nothing has written reads as (R383, D25; log 2), and a port array's entry at power-on
(R384, D6; log 3). DESIGN CHOICE, unsafe: the spec gives a draw. -/
def Config.unwritten : Byte := 0

end Sys2Proof
end

