-- ==== Sys2Proof/Machine/State.lean ====
section
/-! DEFINITION. The state of the core (10_state.md R50) as plain data, its fatal errors (60_exceptions.md R340), what a
completed call hands the host (R133, R362), and the state after power-on (70_reset_and_hazards.md R380-R384). -/

namespace Sys2Proof.Machine

/-- The seven 8-bit general registers (R30). -/
structure Regs where
  b : Byte
  c : Byte
  d : Byte
  e : Byte
  h : Byte
  l : Byte
  a : Byte
  deriving DecidableEq, Repr

/-- The five flags (R35). The other three bits of the flag byte are not state. -/
structure Flags where
  s : Bool
  z : Bool
  ac : Bool
  p : Bool
  cy : Bool
  deriving DecidableEq, Repr

/-- A fatal error with its record (R340). -/
inductive ErrorRecord where
  /-- code 1: a write of `value` to `addr` in ROM by the instruction at `pc0`, or by an interrupt's push with `pc0` the pushed
  PC (R342) -/
  | writeProtectionViolation (addr : Word) (value : Byte) (pc0 : Word)
  /-- code 2: the illegal byte `byte` fetched as an opcode at `pc0` (R343) -/
  | unknownOpcode (byte : Byte) (pc0 : Word)
  /-- code 3: `load_image` of `n` bytes at `origin` (R344) -/
  | imageTooLarge (origin : Word) (n : Nat)
  deriving DecidableEq, Repr

/-- An event handed to the host at the end of a step (R362). -/
inductive Event where
  /-- OUT 3 or OUT 5: the port and the raw byte (R300) -/
  | sound (port value : Byte)
  /-- OUT 6 (R301) -/
  | resetRequest
  deriving DecidableEq, Repr

/-- What one execute() hands the host (R130, R133, R362): the cycle count, none for a step that raised an error, and the
events in the order emitted. -/
structure Output where
  cycles : Option Nat
  events : List Event
  deriving DecidableEq, Repr

/-- No output (R341). -/
def Output.nothing : Output := { cycles := none, events := [] }

/-- Bytes by address: a memory, or a port array. Only the bytes that differ from `Config.unwritten` are listed, by strictly
rising address. -/
abbrev Cells := List Host.Cell

/-- The whole state: the tuple of R50, then the two fields of the model's own. -/
structure State where
  /-- A, B, C, D, E, H, L (R30) -/
  regs : Regs
  /-- SP (R32) -/
  sp : Word
  /-- PC (R33) -/
  pc : Word
  /-- S, Z, AC, P, CY (R35) -/
  flags : Flags
  /-- IE (R40) -/
  ie : Bool
  /-- HALT (R41) -/
  halt : Bool
  /-- SHIFT (R43) -/
  shift : Word
  /-- SHIFT_OFF (R44) -/
  shiftOff : BitVec 3
  /-- IN_SNAP, by input port number (R46) -/
  inSnap : Cells
  /-- OUT_LATCH, by output port number (R47) -/
  outLatch : Cells
  /-- MEM (R48) -/
  mem : Cells
  /-- FAULT (R49) -/
  fault : Option ErrorRecord
  /-- The model's own: how many times RESET_DRAW has been drawn (log 4). -/
  draws : Nat
  /-- The model's own: what the last execute() handed the host (log 5). No rule reads it. -/
  out : Output
  deriving DecidableEq, Repr

/-- Why `step` stops with no next state: it has no constructor, because `step` never does. The fatal errors of R340 are no such
stop: the step that raises one answers a next state with FAULT set (log 6), and execute() is then a no-op (R341, log 7). -/
inductive Fault where
  deriving DecidableEq, Repr

/-- Why a call has no meaning. -/
inductive Refusal where
  /-- Raised by `exec` for an instruction without a meaning; this model has none. Safe. -/
  | notModelled (mnemonic : String)
  /-- Raised by the host call raise(vector) with a vector of 8 to 255, which the spec refuses (R352, R10). Safe. -/
  | vectorOutOfRange (vector : Byte)
  deriving DecidableEq, Repr

/-- What a meaning answers. -/
abbrev Result := Host.Outcome State Fault Refusal

/-- Right after power-on, with no image loaded (R380). PC, IE, HALT and FAULT are the spec's values. Every other field is a
draw of the spec (R381, R383, R384) and holds the value a log entry names (log 1, 2, 3). DESIGN CHOICE, unsafe. -/
def State.reset : State where
  regs := { b := 0, c := 0, d := 0, e := 0, h := 0, l := 0, a := 0 }
  sp := 0
  pc := 0
  flags := { s := false, z := false, ac := false, p := false, cy := false }
  ie := false
  halt := false
  shift := 0
  shiftOff := 0
  inSnap := []
  outLatch := []
  mem := []
  fault := none
  draws := 0
  out := Output.nothing

end Sys2Proof.Machine
end

