-- ==== Sys2Proof/Machine/Ops.lean ====
section
/-! DEFINITION. The operations every meaning is made of: registers and pairs (10_state.md R31), memory (20_memory.md R72, R73,
R79), raising a fatal error (60_exceptions.md R341), the stack (44_stack_control.md R250-R253), accepting an interrupt and
the return from it (R353, R357), the reset of OUT 6 (70_reset_and_hazards.md R380-R382), and fetching (40_engine_flags.md
R130). -/

namespace Sys2Proof.Machine

/-! ## Bytes by address -/

/-- The byte at address `a`. -/
def Cells.read : Cells → Nat → Byte
  | [], _ => Config.unwritten
  | (k, v) :: rest, a => if a = k then v else Cells.read rest a

/-- The cells with byte `v` at address `a`, keeping the canonical form: writing what an unlisted address reads as unlists it. -/
def Cells.write : Cells → Nat → Byte → Cells
  | [], a, v => if v = Config.unwritten then [] else [(a, v)]
  | (k, w) :: rest, a, v =>
    if a < k then (if v = Config.unwritten then (k, w) :: rest else (a, v) :: (k, w) :: rest)
    else if a = k then (if v = Config.unwritten then rest else (a, v) :: rest)
    else (k, w) :: Cells.write rest a v

/-- Every listed address is at least `lo` and below `bound`, addresses strictly rise, and no listed byte is the unlisted one. -/
def Cells.wfFrom (bound : Nat) : Nat → Cells → Bool
  | _, [] => true
  | lo, (k, v) :: rest => decide (lo ≤ k) && decide (k < bound) && decide (v ≠ Config.unwritten) && Cells.wfFrom bound (k + 1) rest

/-- The canonical form over the addresses below `bound`: two such cells that read alike are equal data. -/
def Cells.wf (bound : Nat) (m : Cells) : Bool := Cells.wfFrom bound 0 m

/-- The cells with a list of bytes written from address `a` up. -/
def Cells.load : Cells → Nat → List Byte → Cells
  | m, _, [] => m
  | m, a, b :: rest => Cells.load (m.write a b) (a + 1) rest

/-- The canonical form of the memory: addresses below 65536 (R70). -/
def Memory.wf (m : Cells) : Bool := Cells.wf 65536 m

/-- The canonical form of a port array: ports below 256 (R46, R47). -/
def Ports.wf (m : Cells) : Bool := Cells.wf 256 m

/-- The invariant of the state: its three byte collections are canonical, so that equal contents are equal data. -/
def State.wf (s : State) : Bool := Memory.wf s.mem && Ports.wf s.inSnap && Ports.wf s.outLatch

/-! ## Registers and plain updates -/

/-- `x[r]` (R8). -/
def State.getReg (s : State) : Reg → Byte
  | .b => s.regs.b
  | .c => s.regs.c
  | .d => s.regs.d
  | .e => s.regs.e
  | .h => s.regs.h
  | .l => s.regs.l
  | .a => s.regs.a

/-- The registers with `r <- v`. -/
def Regs.set (x : Regs) (r : Reg) (v : Byte) : Regs :=
  match r with
  | .b => { x with b := v }
  | .c => { x with c := v }
  | .d => { x with d := v }
  | .e => { x with e := v }
  | .h => { x with h := v }
  | .l => { x with l := v }
  | .a => { x with a := v }

/-- `r <- v` (R8). -/
def State.setReg (s : State) (r : Reg) (v : Byte) : State := { s with regs := s.regs.set r v }

/-- `x[BC]` (R31). -/
def State.bc (s : State) : Word := pairOf s.regs.b s.regs.c

/-- `x[DE]` (R31). -/
def State.de (s : State) : Word := pairOf s.regs.d s.regs.e

/-- `x[HL]` (R31). -/
def State.hl (s : State) : Word := pairOf s.regs.h s.regs.l

/-- `SP <- v`. -/
def State.setSp (s : State) (v : Word) : State := { s with sp := v }

/-- `pc <- target` (R132). -/
def State.setPc (s : State) (v : Word) : State := { s with pc := v }

/-- All five flags written. -/
def State.setFlags (s : State) (f : Flags) : State := { s with flags := f }

/-- CY alone written (R147). -/
def State.setCy (s : State) (v : Bool) : State := { s with flags := { s.flags with cy := v } }

/-- `IE <- v` (R40). -/
def State.setIe (s : State) (v : Bool) : State := { s with ie := v }

/-- `HALT <- v` (R41). -/
def State.setHalt (s : State) (v : Bool) : State := { s with halt := v }

/-- `emit Ev` (R8, R362). -/
def State.emit (s : State) (ev : Event) : State := { s with out := { s.out with events := s.out.events ++ [ev] } }

/-! ## Memory -/

/-- `MemRead(addr, 1)` (R72): always succeeds, changes nothing. -/
def State.readByte (s : State) (addr : Word) : Byte := s.mem.read addr.toNat

/-- `MEM[addr] <- v` with no write protection. -/
def State.poke (s : State) (addr : Word) (v : Byte) : State := { s with mem := s.mem.write addr.toNat v }

/-- `MemRead(addr, 2)` (R79): the byte at `addr` is the low one (R78), and the next address is mod 2^16 (R71). -/
def State.readWord (s : State) (addr : Word) : Word := pairOf (s.readByte (addr + 1)) (s.readByte addr)

/-- The address lies in ROM (R73, R74). -/
def inRom (addr : Word) : Bool := decide (addr.toNat ≤ Config.romHi)

/-- `raise E(info)` (R341): FAULT takes the record. That the call ends here is `Flow.stop`. -/
def State.raiseError (s : State) (e : ErrorRecord) : State := { s with fault := some e }

/-- How far a call has come: it goes on from a state, or it has stopped in one, a fatal error being raised (R341, R347). -/
inductive Flow where
  | go (s : State)
  | stop (s : State)
  deriving DecidableEq, Repr

/-- Go on with `k`, unless the call has stopped. -/
def Flow.andThen (f : Flow) (k : State → Flow) : Flow :=
  match f with
  | .go s => k s
  | .stop s => .stop s

/-- `MemWrite(addr, 1, v)` by the instruction at `pc0` (R73). -/
def memWrite (addr : Word) (v : Byte) (pc0 : Word) (s : State) : Flow :=
  if inRom addr then .stop (s.raiseError (.writeProtectionViolation addr v pc0)) else .go (s.poke addr v)

/-- `MemWrite(addr, 2, v)` (R79): the low byte first, then the high byte. -/
def memWrite16 (addr : Word) (v : Word) (pc0 : Word) (s : State) : Flow :=
  (memWrite addr (loByte v) pc0 s).andThen fun s1 => memWrite (addr + 1) (hiByte v) pc0 s1

/-! ## The stack and control transfer -/

/-- `push16(hi, lo)` (R250): the high byte first; SP moves only after both writes. -/
def push16 (hi lo : Byte) (pc0 : Word) (s : State) : Flow :=
  (memWrite (s.sp - 1) hi pc0 s).andThen fun s1 =>
    (memWrite (s.sp - 2) lo pc0 s1).andThen fun s2 => .go (s2.setSp (s.sp - 2))

/-- The word `pop16()` returns (R251). -/
def State.topWord (s : State) : Word := s.readWord s.sp

/-- The state `pop16()` leaves (R251). -/
def State.popped (s : State) : State := s.setSp (s.sp + 2)

/-- `call(target, ret_addr)` (R252). -/
def callFlow (target retAddr pc0 : Word) (s : State) : Flow :=
  (push16 (hiByte retAddr) (loByte retAddr) pc0 s).andThen fun s1 => .go (s1.setPc target)

/-- `ret()` (R253): also the only return from an interrupt (R357). -/
def State.returned (s : State) : State := s.popped.setPc s.topWord

/-- The restart and interrupt address `8 * n` (R77, R103). -/
def vectorAddress (n : Nat) : Word := BitVec.ofNat 16 (8 * n)

/-- Taking an interrupt with IE = 1 (R351, R353): the pc is pushed, high byte first, as an instruction at that pc would push
it; then the pc goes to the vector, and IE and HALT become 0. No flag and no register is saved (R365). -/
def acceptInterrupt (vector : Nat) (s : State) : Flow :=
  (push16 (hiByte s.pc) (loByte s.pc) s.pc s).andThen fun s1 =>
    .go (((s1.setPc (vectorAddress vector)).setIe false).setHalt false)

/-! ## Reset -/

/-- The registers a reset by OUT 6 leaves: the draw of number `n` (R381; log 4). -/
def drawnRegs (n : Nat) : Regs where
  b := Config.resetByte (7 * n)
  c := Config.resetByte (7 * n + 1)
  d := Config.resetByte (7 * n + 2)
  e := Config.resetByte (7 * n + 3)
  h := Config.resetByte (7 * n + 4)
  l := Config.resetByte (7 * n + 5)
  a := Config.resetByte (7 * n + 6)

/-- The flags a reset by OUT 6 leaves: the draw of number `n` (R381; log 4). -/
def drawnFlags (n : Nat) : Flags where
  s := Config.resetFlag (5 * n)
  z := Config.resetFlag (5 * n + 1)
  ac := Config.resetFlag (5 * n + 2)
  p := Config.resetFlag (5 * n + 3)
  cy := Config.resetFlag (5 * n + 4)

/-- The reset of OUT 6 (R301, R380, R381): memory and all I/O state are kept (R382). -/
def State.resetCore (s : State) : State :=
  { s with
    regs := drawnRegs s.draws
    sp := Config.resetWord s.draws
    flags := drawnFlags s.draws
    pc := 0
    ie := false
    halt := false
    fault := none
    draws := s.draws + 1 }

/-! ## The frame of a step -/

/-- The start of an instruction of `len` bytes (R130): `PC <- next`, no output yet. -/
def State.enter (s : State) (len : Nat) : State := { s with pc := s.pc + BitVec.ofNat 16 len, out := Output.nothing }

/-- The end of a completed step (R133): it hands the host its cycle count. -/
def complete (cycles : Nat) (s : State) : Result := .next { s with out := { s.out with cycles := some cycles } }

/-- The end of a step that may have stopped: a stopped one hands over no cycle count (R133, R341). -/
def Flow.finish (f : Flow) (cycles : Nat) : Result :=
  match f with
  | .go s => complete cycles s
  | .stop s => .next s

/-- The step of a halted core (R131): it fetches nothing and only reports `HALT_IDLE_CYCLES`. -/
def idleStep (s : State) : Result := .next { s with out := { cycles := some Config.haltIdleCycles, events := [] } }

/-- The step of a core that has stopped (R341): a no-op with no output, so the host gets nothing back. -/
def stoppedStep (s : State) : Result := .next { s with out := Output.nothing }

/-- The instruction at the program counter (R130). An instruction shorter than three bytes ignores the operand bytes it does
not have; reading them changes nothing (R72, R84). -/
def fetchInstr (s : State) : Instr := decodeOp (s.readByte s.pc) (s.readByte (s.pc + 1)) (s.readByte (s.pc + 2))

end Sys2Proof.Machine
end

