-- ==== Sys2Proof/Machine/Flags.lean ====
section
/-! DEFINITION. The flag and ALU functions (40_engine_flags.md R138-R148) and the flag byte (10_state.md R36-R39). -/

namespace Sys2Proof.Machine

/-- `cond(ccc)` (R107, R138). -/
def Flags.cond (f : Flags) : Cond → Bool
  | .nz => !f.z
  | .z => f.z
  | .nc => !f.cy
  | .c => f.cy
  | .po => !f.p
  | .pe => f.p
  | .p => !f.s
  | .m => f.s

/-- `zero(v)` (R139). -/
def zero (v : Byte) : Bool := v == 0

/-- `sign(v)` (R140). -/
def sign (v : Byte) : Bool := v.getLsbD 7

/-- `popcount(v)` (R7). -/
def popcount (v : Byte) : Nat :=
  (v.getLsbD 0).toNat + (v.getLsbD 1).toNat + (v.getLsbD 2).toNat + (v.getLsbD 3).toNat +
    (v.getLsbD 4).toNat + (v.getLsbD 5).toNat + (v.getLsbD 6).toNat + (v.getLsbD 7).toNat

/-- `parity(v)` (R141): true for an even number of 1 bits. -/
def parity (v : Byte) : Bool := popcount v % 2 == 0

/-- `carry8(t)` (R142). -/
def carry8 (t : Nat) : Bool := decide (t > 0xFF)

/-- `carry16(t)` (R142). -/
def carry16 (t : Nat) : Bool := decide (t > 0xFFFF)

/-- `sub_wide(a, b, c)` (R143): mod 2^16. -/
def subWide (a b : Byte) (c : Bool) : Word := a.setWidth 16 - b.setWidth 16 - BitVec.ofNat 16 c.toNat

/-- `aux_carry(a, b, c)` (R144). -/
def auxCarry (a b : Byte) (c : Bool) : Bool := decide ((a &&& 0xF).toNat + (b &&& 0xF).toNat + c.toNat > 0xF)

/-- `aux_sub(a, b, c)` (R145). -/
def auxSub (a b : Byte) (c : Bool) : Bool := auxCarry a (~~~b) (!c)

/-- `set_szp(v)` (R146). -/
def setSzp (v : Byte) (f : Flags) : Flags := { f with s := sign v, z := zero v, p := parity v }

/-- The result and flags of `a + b + c` (R180, R182). -/
def addResult (a b : Byte) (c : Bool) (f : Flags) : Byte × Flags :=
  let t := a.toNat + b.toNat + c.toNat
  let v := BitVec.ofNat 8 t
  (v, setSzp v { f with cy := carry8 t, ac := auxCarry a b c })

/-- The result and flags of `a - b - c` (R184, R186). -/
def subResult (a b : Byte) (c : Bool) (f : Flags) : Byte × Flags :=
  let t := subWide a b c
  let v := loByte t
  (v, setSzp v { f with cy := carry8 t.toNat, ac := auxSub a b c })

/-- The flags of a logical result (R188-R193): CY and AC are 0. -/
def logicResult (v : Byte) (f : Flags) : Byte × Flags := (v, setSzp v { f with cy := false, ac := false })

/-- The new A and flags of the eight 8-bit operations on A and `v` (R180-R195). CMP leaves A (R194). -/
def aluResult (op : AluOp) (a v : Byte) (f : Flags) : Byte × Flags :=
  match op with
  | .add => addResult a v false f
  | .adc => addResult a v f.cy f
  | .sub => subResult a v false f
  | .sbb => subResult a v f.cy f
  | .ana => logicResult (a &&& v) f
  | .xra => logicResult (a ^^^ v) f
  | .ora => logicResult (a ||| v) f
  | .cmp => (a, (subResult a v false f).2)

/-- The flags of INR from the value before (R196); CY is kept. -/
def incFlags (v : Byte) (f : Flags) : Flags := setSzp (v + 1) { f with ac := auxCarry v 0x01 false }

/-- The flags of DCR from the value before (R198); CY is kept. -/
def decFlags (v : Byte) (f : Flags) : Flags := setSzp (v - 1) { f with ac := auxCarry v 0xFF false }

/-- `decimal_adjust()` (R148): two sequential additions in a widened integer. -/
def decimalAdjust (a : Byte) (f : Flags) : Byte × Flags :=
  let lo : Byte := if (a &&& 0x0F).toNat > 9 || f.ac then 0x06 else 0
  let t := a.toNat + lo.toNat
  let high := decide (t / 16 > 9) || f.cy
  let v := BitVec.ofNat 8 (if high then t + 0x60 else t)
  (v, setSzp v { f with cy := if high then true else f.cy, ac := auxCarry a lo false })

/-- `flags_to_byte()` (R36, R37): bit 1 is 1, bits 5 and 3 are 0. -/
def flagsToByte (f : Flags) : Byte :=
  bitAt f.s 7 ||| bitAt f.z 6 ||| bitAt f.ac 4 ||| bitAt f.p 2 ||| bitAt true 1 ||| bitAt f.cy 0

/-- `byte_to_flags(v)` (R38): bits 5, 3 and 1 are ignored. -/
def byteToFlags (v : Byte) : Flags where
  s := v.getLsbD 7
  z := v.getLsbD 6
  ac := v.getLsbD 4
  p := v.getLsbD 2
  cy := v.getLsbD 0

end Sys2Proof.Machine
end

