-- ==== Sys2Proof/Machine/Operands.lean ====
section
/-! DEFINITION. The operand forms (30_encoding.md R116, 40_engine_flags.md R135-R137). -/

namespace Sys2Proof.Machine

/-- `src8` (R135): a register, or the byte at HL. -/
def State.src8 (s : State) : Operand → Byte
  | .reg r => s.getReg r
  | .m => s.readByte s.hl

/-- `dst8` (R136): a register, or the byte at HL, whose write may stop. -/
def dst8 (o : Operand) (v : Byte) (pc0 : Word) (s : State) : Flow :=
  match o with
  | .reg r => .go (s.setReg r v)
  | .m => memWrite s.hl v pc0 s

/-- `rp16` (R137). -/
def State.rp16 (s : State) : Pair → Word
  | .bc => s.bc
  | .de => s.de
  | .hl => s.hl
  | .sp => s.sp

/-- `set_rp16` (R137, R31): both halves written. -/
def State.setRp16 (s : State) (p : Pair) (v : Word) : State :=
  match p with
  | .bc => (s.setReg .b (hiByte v)).setReg .c (loByte v)
  | .de => (s.setReg .d (hiByte v)).setReg .e (loByte v)
  | .hl => (s.setReg .h (hiByte v)).setReg .l (loByte v)
  | .sp => s.setSp v

/-- The address of LDAX and STAX (R170, R171). -/
def State.indexAddr (s : State) : IndexPair → Word
  | .bc => s.bc
  | .de => s.de

end Sys2Proof.Machine
end

