-- ==== Sys2Proof/Machine/ArithLogic.lean ====
section
/-! DEFINITION. The arithmetic and logical instructions (42_arith_logic.md R180-R203): the shared operations, then one meaning
per row of the table. -/

namespace Sys2Proof.Machine

/-- A and the flags take the result of `op` on A and `v` (R180-R195). -/
def State.aluInto (s : State) (op : AluOp) (v : Byte) : State :=
  (s.setReg .a (aluResult op s.regs.a v s.flags).1).setFlags (aluResult op s.regs.a v s.flags).2

/-- The register forms. -/
def aluReg (op : AluOp) (r : Reg) (s : State) : Result := complete 4 ((s.enter 1).aluInto op (s.getReg r))

/-- The M forms. -/
def aluMem (op : AluOp) (s : State) : Result := complete 7 ((s.enter 1).aluInto op (s.readByte s.hl))

/-- The immediate forms. -/
def aluImm (op : AluOp) (v : Byte) (s : State) : Result := complete 7 ((s.enter 2).aluInto op v)

/-- INR r (R196). -/
def inrReg (r : Reg) (s : State) : Result :=
  complete 5 (((s.enter 1).setReg r (s.getReg r + 1)).setFlags (incFlags (s.getReg r) s.flags))

/-- INR M (R197): the flags are written after the byte. -/
def inrMem (s : State) : Result :=
  ((memWrite s.hl (s.readByte s.hl + 1) s.pc (s.enter 1)).andThen fun s1 =>
    .go (s1.setFlags (incFlags (s.readByte s.hl) s.flags))).finish 10

/-- DCR r (R198). -/
def dcrReg (r : Reg) (s : State) : Result :=
  complete 5 (((s.enter 1).setReg r (s.getReg r - 1)).setFlags (decFlags (s.getReg r) s.flags))

/-- DCR M (R199): the flags are written after the byte. -/
def dcrMem (s : State) : Result :=
  ((memWrite s.hl (s.readByte s.hl - 1) s.pc (s.enter 1)).andThen fun s1 =>
    .go (s1.setFlags (decFlags (s.readByte s.hl) s.flags))).finish 10

/-- INX rp (R200). -/
def inxPair (p : Pair) (s : State) : Result := complete 5 ((s.enter 1).setRp16 p (s.rp16 p + 1))

/-- DCX rp (R201). -/
def dcxPair (p : Pair) (s : State) : Result := complete 5 ((s.enter 1).setRp16 p (s.rp16 p - 1))

/-- DAD rp (R202): the sum is taken in a widened integer; only CY is written. -/
def dadPair (p : Pair) (s : State) : Result :=
  complete 10 (((s.enter 1).setRp16 .hl (BitVec.ofNat 16 (s.hl.toNat + (s.rp16 p).toNat))).setCy
    (carry16 (s.hl.toNat + (s.rp16 p).toNat)))

/-- DAA (R203). -/
def decimalAdjustA (s : State) : Result :=
  complete 4 (((s.enter 1).setReg .a (decimalAdjust s.regs.a s.flags).1).setFlags (decimalAdjust s.regs.a s.flags).2)

/-- R200: INX B. -/
def execInxB (s : State) : Result := inxPair .bc s

/-- R196: INR B. -/
def execInrB (s : State) : Result := inrReg .b s

/-- R198: DCR B. -/
def execDcrB (s : State) : Result := dcrReg .b s

/-- R202: DAD B. -/
def execDadB (s : State) : Result := dadPair .bc s

/-- R201: DCX B. -/
def execDcxB (s : State) : Result := dcxPair .bc s

/-- R196: INR C. -/
def execInrC (s : State) : Result := inrReg .c s

/-- R198: DCR C. -/
def execDcrC (s : State) : Result := dcrReg .c s

/-- R200: INX D. -/
def execInxD (s : State) : Result := inxPair .de s

/-- R196: INR D. -/
def execInrD (s : State) : Result := inrReg .d s

/-- R198: DCR D. -/
def execDcrD (s : State) : Result := dcrReg .d s

/-- R202: DAD D. -/
def execDadD (s : State) : Result := dadPair .de s

/-- R201: DCX D. -/
def execDcxD (s : State) : Result := dcxPair .de s

/-- R196: INR E. -/
def execInrE (s : State) : Result := inrReg .e s

/-- R198: DCR E. -/
def execDcrE (s : State) : Result := dcrReg .e s

/-- R200: INX H. -/
def execInxH (s : State) : Result := inxPair .hl s

/-- R196: INR H. -/
def execInrH (s : State) : Result := inrReg .h s

/-- R198: DCR H. -/
def execDcrH (s : State) : Result := dcrReg .h s

/-- R203: DAA. -/
def execDaa (s : State) : Result := decimalAdjustA s

/-- R202: DAD H. -/
def execDadH (s : State) : Result := dadPair .hl s

/-- R201: DCX H. -/
def execDcxH (s : State) : Result := dcxPair .hl s

/-- R196: INR L. -/
def execInrL (s : State) : Result := inrReg .l s

/-- R198: DCR L. -/
def execDcrL (s : State) : Result := dcrReg .l s

/-- R200: INX SP. -/
def execInxSp (s : State) : Result := inxPair .sp s

/-- R197: INR M. -/
def execInrM (s : State) : Result := inrMem s

/-- R199: DCR M. -/
def execDcrM (s : State) : Result := dcrMem s

/-- R202: DAD SP. -/
def execDadSp (s : State) : Result := dadPair .sp s

/-- R201: DCX SP. -/
def execDcxSp (s : State) : Result := dcxPair .sp s

/-- R196: INR A. -/
def execInrA (s : State) : Result := inrReg .a s

/-- R198: DCR A. -/
def execDcrA (s : State) : Result := dcrReg .a s

/-- R180: ADD B. -/
def execAddB (s : State) : Result := aluReg .add .b s

/-- R180: ADD C. -/
def execAddC (s : State) : Result := aluReg .add .c s

/-- R180: ADD D. -/
def execAddD (s : State) : Result := aluReg .add .d s

/-- R180: ADD E. -/
def execAddE (s : State) : Result := aluReg .add .e s

/-- R180: ADD H. -/
def execAddH (s : State) : Result := aluReg .add .h s

/-- R180: ADD L. -/
def execAddL (s : State) : Result := aluReg .add .l s

/-- R180: ADD M. -/
def execAddM (s : State) : Result := aluMem .add s

/-- R180: ADD A. -/
def execAddA (s : State) : Result := aluReg .add .a s

/-- R182: ADC B. -/
def execAdcB (s : State) : Result := aluReg .adc .b s

/-- R182: ADC C. -/
def execAdcC (s : State) : Result := aluReg .adc .c s

/-- R182: ADC D. -/
def execAdcD (s : State) : Result := aluReg .adc .d s

/-- R182: ADC E. -/
def execAdcE (s : State) : Result := aluReg .adc .e s

/-- R182: ADC H. -/
def execAdcH (s : State) : Result := aluReg .adc .h s

/-- R182: ADC L. -/
def execAdcL (s : State) : Result := aluReg .adc .l s

/-- R182: ADC M. -/
def execAdcM (s : State) : Result := aluMem .adc s

/-- R182: ADC A. -/
def execAdcA (s : State) : Result := aluReg .adc .a s

/-- R184: SUB B. -/
def execSubB (s : State) : Result := aluReg .sub .b s

/-- R184: SUB C. -/
def execSubC (s : State) : Result := aluReg .sub .c s

/-- R184: SUB D. -/
def execSubD (s : State) : Result := aluReg .sub .d s

/-- R184: SUB E. -/
def execSubE (s : State) : Result := aluReg .sub .e s

/-- R184: SUB H. -/
def execSubH (s : State) : Result := aluReg .sub .h s

/-- R184: SUB L. -/
def execSubL (s : State) : Result := aluReg .sub .l s

/-- R184: SUB M. -/
def execSubM (s : State) : Result := aluMem .sub s

/-- R184: SUB A. -/
def execSubA (s : State) : Result := aluReg .sub .a s

/-- R186: SBB B. -/
def execSbbB (s : State) : Result := aluReg .sbb .b s

/-- R186: SBB C. -/
def execSbbC (s : State) : Result := aluReg .sbb .c s

/-- R186: SBB D. -/
def execSbbD (s : State) : Result := aluReg .sbb .d s

/-- R186: SBB E. -/
def execSbbE (s : State) : Result := aluReg .sbb .e s

/-- R186: SBB H. -/
def execSbbH (s : State) : Result := aluReg .sbb .h s

/-- R186: SBB L. -/
def execSbbL (s : State) : Result := aluReg .sbb .l s

/-- R186: SBB M. -/
def execSbbM (s : State) : Result := aluMem .sbb s

/-- R186: SBB A. -/
def execSbbA (s : State) : Result := aluReg .sbb .a s

/-- R188: ANA B. -/
def execAnaB (s : State) : Result := aluReg .ana .b s

/-- R188: ANA C. -/
def execAnaC (s : State) : Result := aluReg .ana .c s

/-- R188: ANA D. -/
def execAnaD (s : State) : Result := aluReg .ana .d s

/-- R188: ANA E. -/
def execAnaE (s : State) : Result := aluReg .ana .e s

/-- R188: ANA H. -/
def execAnaH (s : State) : Result := aluReg .ana .h s

/-- R188: ANA L. -/
def execAnaL (s : State) : Result := aluReg .ana .l s

/-- R188: ANA M. -/
def execAnaM (s : State) : Result := aluMem .ana s

/-- R188: ANA A. -/
def execAnaA (s : State) : Result := aluReg .ana .a s

/-- R190: XRA B. -/
def execXraB (s : State) : Result := aluReg .xra .b s

/-- R190: XRA C. -/
def execXraC (s : State) : Result := aluReg .xra .c s

/-- R190: XRA D. -/
def execXraD (s : State) : Result := aluReg .xra .d s

/-- R190: XRA E. -/
def execXraE (s : State) : Result := aluReg .xra .e s

/-- R190: XRA H. -/
def execXraH (s : State) : Result := aluReg .xra .h s

/-- R190: XRA L. -/
def execXraL (s : State) : Result := aluReg .xra .l s

/-- R190: XRA M. -/
def execXraM (s : State) : Result := aluMem .xra s

/-- R190: XRA A. -/
def execXraA (s : State) : Result := aluReg .xra .a s

/-- R192: ORA B. -/
def execOraB (s : State) : Result := aluReg .ora .b s

/-- R192: ORA C. -/
def execOraC (s : State) : Result := aluReg .ora .c s

/-- R192: ORA D. -/
def execOraD (s : State) : Result := aluReg .ora .d s

/-- R192: ORA E. -/
def execOraE (s : State) : Result := aluReg .ora .e s

/-- R192: ORA H. -/
def execOraH (s : State) : Result := aluReg .ora .h s

/-- R192: ORA L. -/
def execOraL (s : State) : Result := aluReg .ora .l s

/-- R192: ORA M. -/
def execOraM (s : State) : Result := aluMem .ora s

/-- R192: ORA A. -/
def execOraA (s : State) : Result := aluReg .ora .a s

/-- R194: CMP B. -/
def execCmpB (s : State) : Result := aluReg .cmp .b s

/-- R194: CMP C. -/
def execCmpC (s : State) : Result := aluReg .cmp .c s

/-- R194: CMP D. -/
def execCmpD (s : State) : Result := aluReg .cmp .d s

/-- R194: CMP E. -/
def execCmpE (s : State) : Result := aluReg .cmp .e s

/-- R194: CMP H. -/
def execCmpH (s : State) : Result := aluReg .cmp .h s

/-- R194: CMP L. -/
def execCmpL (s : State) : Result := aluReg .cmp .l s

/-- R194: CMP M. -/
def execCmpM (s : State) : Result := aluMem .cmp s

/-- R194: CMP A. -/
def execCmpA (s : State) : Result := aluReg .cmp .a s

/-- R181: ADI d8. -/
def execAdi (imm : Byte) (s : State) : Result := aluImm .add imm s

/-- R183: ACI d8. -/
def execAci (imm : Byte) (s : State) : Result := aluImm .adc imm s

/-- R185: SUI d8. -/
def execSui (imm : Byte) (s : State) : Result := aluImm .sub imm s

/-- R187: SBI d8. -/
def execSbi (imm : Byte) (s : State) : Result := aluImm .sbb imm s

/-- R189: ANI d8. -/
def execAni (imm : Byte) (s : State) : Result := aluImm .ana imm s

/-- R191: XRI d8. -/
def execXri (imm : Byte) (s : State) : Result := aluImm .xra imm s

/-- R193: ORI d8. -/
def execOri (imm : Byte) (s : State) : Result := aluImm .ora imm s

/-- R195: CPI d8. -/
def execCpi (imm : Byte) (s : State) : Result := aluImm .cmp imm s

end Sys2Proof.Machine
end

