-- ==== Sys2Proof/Machine/DataTransfer.lean ====
section
/-! DEFINITION. The data transfer instructions (41_data_transfer.md R160-R172): the shared operations, then one meaning per row
of the table. None writes a flag. -/

namespace Sys2Proof.Machine

/-- MOV r1,r2 (R160). -/
def movRegReg (dst src : Reg) (s : State) : Result := complete 5 ((s.enter 1).setReg dst (s.getReg src))

/-- MOV r,M (R161). -/
def movRegMem (dst : Reg) (s : State) : Result := complete 7 ((s.enter 1).setReg dst (s.readByte s.hl))

/-- MOV M,r (R162). -/
def movMemReg (r : Reg) (s : State) : Result := (memWrite s.hl (s.getReg r) s.pc (s.enter 1)).finish 7

/-- MVI r,d8 (R163). -/
def mviReg (dst : Reg) (v : Byte) (s : State) : Result := complete 7 ((s.enter 2).setReg dst v)

/-- MVI M,d8 (R164). -/
def mviMem (v : Byte) (s : State) : Result := (memWrite s.hl v s.pc (s.enter 2)).finish 10

/-- LXI rp,d16 (R165). -/
def lxiPair (p : Pair) (v : Word) (s : State) : Result := complete 10 ((s.enter 3).setRp16 p v)

/-- LDA a16 (R166). -/
def ldaDirect (a : Word) (s : State) : Result := complete 13 ((s.enter 3).setReg .a (s.readByte a))

/-- STA a16 (R167). -/
def staDirect (a : Word) (s : State) : Result := (memWrite a s.regs.a s.pc (s.enter 3)).finish 13

/-- LHLD a16 (R168). -/
def lhldDirect (a : Word) (s : State) : Result := complete 16 ((s.enter 3).setRp16 .hl (s.readWord a))

/-- SHLD a16 (R169): L first, then H. -/
def shldDirect (a : Word) (s : State) : Result := (memWrite16 a s.hl s.pc (s.enter 3)).finish 16

/-- LDAX rp (R170). -/
def ldaxIndex (p : IndexPair) (s : State) : Result := complete 7 ((s.enter 1).setReg .a (s.readByte (s.indexAddr p)))

/-- STAX rp (R171). -/
def staxIndex (p : IndexPair) (s : State) : Result := (memWrite (s.indexAddr p) s.regs.a s.pc (s.enter 1)).finish 7

/-- XCHG (R172): both pairs written from the old values. -/
def exchangeDeHl (s : State) : Result := complete 4 (((s.enter 1).setRp16 .de s.hl).setRp16 .hl s.de)

/-- R165: LXI B,d16. -/
def execLxiB (imm : Word) (s : State) : Result := lxiPair .bc imm s

/-- R171: STAX B. -/
def execStaxB (s : State) : Result := staxIndex .bc s

/-- R163: MVI B,d8. -/
def execMviB (imm : Byte) (s : State) : Result := mviReg .b imm s

/-- R170: LDAX B. -/
def execLdaxB (s : State) : Result := ldaxIndex .bc s

/-- R163: MVI C,d8. -/
def execMviC (imm : Byte) (s : State) : Result := mviReg .c imm s

/-- R165: LXI D,d16. -/
def execLxiD (imm : Word) (s : State) : Result := lxiPair .de imm s

/-- R171: STAX D. -/
def execStaxD (s : State) : Result := staxIndex .de s

/-- R163: MVI D,d8. -/
def execMviD (imm : Byte) (s : State) : Result := mviReg .d imm s

/-- R170: LDAX D. -/
def execLdaxD (s : State) : Result := ldaxIndex .de s

/-- R163: MVI E,d8. -/
def execMviE (imm : Byte) (s : State) : Result := mviReg .e imm s

/-- R165: LXI H,d16. -/
def execLxiH (imm : Word) (s : State) : Result := lxiPair .hl imm s

/-- R169: SHLD a16. -/
def execShld (imm : Word) (s : State) : Result := shldDirect imm s

/-- R163: MVI H,d8. -/
def execMviH (imm : Byte) (s : State) : Result := mviReg .h imm s

/-- R168: LHLD a16. -/
def execLhld (imm : Word) (s : State) : Result := lhldDirect imm s

/-- R163: MVI L,d8. -/
def execMviL (imm : Byte) (s : State) : Result := mviReg .l imm s

/-- R165: LXI SP,d16. -/
def execLxiSp (imm : Word) (s : State) : Result := lxiPair .sp imm s

/-- R167: STA a16. -/
def execSta (imm : Word) (s : State) : Result := staDirect imm s

/-- R164: MVI M,d8. -/
def execMviM (imm : Byte) (s : State) : Result := mviMem imm s

/-- R166: LDA a16. -/
def execLda (imm : Word) (s : State) : Result := ldaDirect imm s

/-- R163: MVI A,d8. -/
def execMviA (imm : Byte) (s : State) : Result := mviReg .a imm s

/-- R160: MOV B,B. -/
def execMovBB (s : State) : Result := movRegReg .b .b s

/-- R160: MOV B,C. -/
def execMovBC (s : State) : Result := movRegReg .b .c s

/-- R160: MOV B,D. -/
def execMovBD (s : State) : Result := movRegReg .b .d s

/-- R160: MOV B,E. -/
def execMovBE (s : State) : Result := movRegReg .b .e s

/-- R160: MOV B,H. -/
def execMovBH (s : State) : Result := movRegReg .b .h s

/-- R160: MOV B,L. -/
def execMovBL (s : State) : Result := movRegReg .b .l s

/-- R161: MOV B,M. -/
def execMovBM (s : State) : Result := movRegMem .b s

/-- R160: MOV B,A. -/
def execMovBA (s : State) : Result := movRegReg .b .a s

/-- R160: MOV C,B. -/
def execMovCB (s : State) : Result := movRegReg .c .b s

/-- R160: MOV C,C. -/
def execMovCC (s : State) : Result := movRegReg .c .c s

/-- R160: MOV C,D. -/
def execMovCD (s : State) : Result := movRegReg .c .d s

/-- R160: MOV C,E. -/
def execMovCE (s : State) : Result := movRegReg .c .e s

/-- R160: MOV C,H. -/
def execMovCH (s : State) : Result := movRegReg .c .h s

/-- R160: MOV C,L. -/
def execMovCL (s : State) : Result := movRegReg .c .l s

/-- R161: MOV C,M. -/
def execMovCM (s : State) : Result := movRegMem .c s

/-- R160: MOV C,A. -/
def execMovCA (s : State) : Result := movRegReg .c .a s

/-- R160: MOV D,B. -/
def execMovDB (s : State) : Result := movRegReg .d .b s

/-- R160: MOV D,C. -/
def execMovDC (s : State) : Result := movRegReg .d .c s

/-- R160: MOV D,D. -/
def execMovDD (s : State) : Result := movRegReg .d .d s

/-- R160: MOV D,E. -/
def execMovDE (s : State) : Result := movRegReg .d .e s

/-- R160: MOV D,H. -/
def execMovDH (s : State) : Result := movRegReg .d .h s

/-- R160: MOV D,L. -/
def execMovDL (s : State) : Result := movRegReg .d .l s

/-- R161: MOV D,M. -/
def execMovDM (s : State) : Result := movRegMem .d s

/-- R160: MOV D,A. -/
def execMovDA (s : State) : Result := movRegReg .d .a s

/-- R160: MOV E,B. -/
def execMovEB (s : State) : Result := movRegReg .e .b s

/-- R160: MOV E,C. -/
def execMovEC (s : State) : Result := movRegReg .e .c s

/-- R160: MOV E,D. -/
def execMovED (s : State) : Result := movRegReg .e .d s

/-- R160: MOV E,E. -/
def execMovEE (s : State) : Result := movRegReg .e .e s

/-- R160: MOV E,H. -/
def execMovEH (s : State) : Result := movRegReg .e .h s

/-- R160: MOV E,L. -/
def execMovEL (s : State) : Result := movRegReg .e .l s

/-- R161: MOV E,M. -/
def execMovEM (s : State) : Result := movRegMem .e s

/-- R160: MOV E,A. -/
def execMovEA (s : State) : Result := movRegReg .e .a s

/-- R160: MOV H,B. -/
def execMovHB (s : State) : Result := movRegReg .h .b s

/-- R160: MOV H,C. -/
def execMovHC (s : State) : Result := movRegReg .h .c s

/-- R160: MOV H,D. -/
def execMovHD (s : State) : Result := movRegReg .h .d s

/-- R160: MOV H,E. -/
def execMovHE (s : State) : Result := movRegReg .h .e s

/-- R160: MOV H,H. -/
def execMovHH (s : State) : Result := movRegReg .h .h s

/-- R160: MOV H,L. -/
def execMovHL (s : State) : Result := movRegReg .h .l s

/-- R161: MOV H,M. -/
def execMovHM (s : State) : Result := movRegMem .h s

/-- R160: MOV H,A. -/
def execMovHA (s : State) : Result := movRegReg .h .a s

/-- R160: MOV L,B. -/
def execMovLB (s : State) : Result := movRegReg .l .b s

/-- R160: MOV L,C. -/
def execMovLC (s : State) : Result := movRegReg .l .c s

/-- R160: MOV L,D. -/
def execMovLD (s : State) : Result := movRegReg .l .d s

/-- R160: MOV L,E. -/
def execMovLE (s : State) : Result := movRegReg .l .e s

/-- R160: MOV L,H. -/
def execMovLH (s : State) : Result := movRegReg .l .h s

/-- R160: MOV L,L. -/
def execMovLL (s : State) : Result := movRegReg .l .l s

/-- R161: MOV L,M. -/
def execMovLM (s : State) : Result := movRegMem .l s

/-- R160: MOV L,A. -/
def execMovLA (s : State) : Result := movRegReg .l .a s

/-- R162: MOV M,B. -/
def execMovMB (s : State) : Result := movMemReg .b s

/-- R162: MOV M,C. -/
def execMovMC (s : State) : Result := movMemReg .c s

/-- R162: MOV M,D. -/
def execMovMD (s : State) : Result := movMemReg .d s

/-- R162: MOV M,E. -/
def execMovME (s : State) : Result := movMemReg .e s

/-- R162: MOV M,H. -/
def execMovMH (s : State) : Result := movMemReg .h s

/-- R162: MOV M,L. -/
def execMovML (s : State) : Result := movMemReg .l s

/-- R162: MOV M,A. -/
def execMovMA (s : State) : Result := movMemReg .a s

/-- R160: MOV A,B. -/
def execMovAB (s : State) : Result := movRegReg .a .b s

/-- R160: MOV A,C. -/
def execMovAC (s : State) : Result := movRegReg .a .c s

/-- R160: MOV A,D. -/
def execMovAD (s : State) : Result := movRegReg .a .d s

/-- R160: MOV A,E. -/
def execMovAE (s : State) : Result := movRegReg .a .e s

/-- R160: MOV A,H. -/
def execMovAH (s : State) : Result := movRegReg .a .h s

/-- R160: MOV A,L. -/
def execMovAL (s : State) : Result := movRegReg .a .l s

/-- R161: MOV A,M. -/
def execMovAM (s : State) : Result := movRegMem .a s

/-- R160: MOV A,A. -/
def execMovAA (s : State) : Result := movRegReg .a .a s

/-- R172: XCHG. -/
def execXchg (s : State) : Result := exchangeDeHl s

end Sys2Proof.Machine
end

