-- ==== Sys2Proof/Machine/IoPorts.lean ====
section
/-! DEFINITION. The I/O port dispatcher and the two I/O instructions (45_io_ports.md R290-R302). -/

namespace Sys2Proof.Machine

/-- The window of input port 3 (R294): `(SHIFT >> (8 - SHIFT_OFF)) & 0xFF`. -/
def State.shiftWindow (s : State) : Byte := (s.shift >>> (8 - s.shiftOff.toNat)).setWidth 8

/-- `PortRead(p)` (R293, R295): no side effect. -/
def State.portRead (s : State) (p : Byte) : Byte := if p = 3 then s.shiftWindow else s.inSnap.read p.toNat

/-- Output port 2 (R297): `SHIFT_OFF <- v & 7`. -/
def State.writeShiftOff (s : State) (v : Byte) : State := { s with shiftOff := v.setWidth 3 }

/-- Output port 4 (R298): `SHIFT <- (v << 8) | (SHIFT >> 8)`. -/
def State.writeShift (s : State) (v : Byte) : State := { s with shift := v.setWidth 16 <<< 8 ||| s.shift >>> 8 }

/-- An unrecognised output port (R302). -/
def State.writeLatch (s : State) (p v : Byte) : State := { s with outLatch := s.outLatch.write p.toNat v }

/-- `PortWrite(p, v)` (R296). -/
def State.portWrite (s : State) (p v : Byte) : State :=
  if p = 2 then s.writeShiftOff v
  else if p = 4 then s.writeShift v
  else if p = 3 ∨ p = 5 then s.emit (.sound p v)
  else if p = 6 then (s.emit .resetRequest).resetCore
  else s.writeLatch p v

/-- IN p8 (R290). -/
def inputFrom (p : Byte) (s : State) : Result := complete 10 ((s.enter 2).setReg .a (s.portRead p))

/-- OUT p8 (R291): the reset of port 6 comes after `PC <- next` and overwrites it (R301). -/
def outputTo (p : Byte) (s : State) : Result := complete 10 ((s.enter 2).portWrite p s.regs.a)

/-- R291: OUT d8. -/
def execOutPort (imm : Byte) (s : State) : Result := outputTo imm s

/-- R290: IN d8. -/
def execInPort (imm : Byte) (s : State) : Result := inputFrom imm s

end Sys2Proof.Machine
end

