-- ==== Sys2Proof/Machine/MachineControl.lean ====
section
/-! DEFINITION. The machine-control instructions (46_machine_control.md R320-R325) and the twelve illegal bytes
(30_encoding.md R112, 40_engine_flags.md R134). -/

namespace Sys2Proof.Machine

/-- NOP (R320). -/
def noOperation (s : State) : Result := complete 4 (s.enter 1)

/-- EI and DI (R321, R322): in force as soon as the step ends (R323). -/
def writeIe (v : Bool) (s : State) : Result := complete 4 ((s.enter 1).setIe v)

/-- HLT (R325): PC is next, and HALT is set. -/
def haltCore (s : State) : Result := complete 7 ((s.enter 1).setHalt true)

/-- An illegal byte (R134, R343): UnknownOpcode, with PC left at pc0 and nothing else changed. -/
def unknownOpcode (op : Byte) (s : State) : Result := (Flow.stop ((s.enter 0).raiseError (.unknownOpcode op s.pc))).finish 0

/-- R320: NOP. -/
def execNop (s : State) : Result := noOperation s

/-- R112: byte 0x08, illegal. -/
def execIllegal08 (s : State) : Result := unknownOpcode 0x08 s

/-- R112: byte 0x10, illegal. -/
def execIllegal10 (s : State) : Result := unknownOpcode 0x10 s

/-- R112: byte 0x18, illegal. -/
def execIllegal18 (s : State) : Result := unknownOpcode 0x18 s

/-- R112: byte 0x20, illegal. -/
def execIllegal20 (s : State) : Result := unknownOpcode 0x20 s

/-- R112: byte 0x28, illegal. -/
def execIllegal28 (s : State) : Result := unknownOpcode 0x28 s

/-- R112: byte 0x30, illegal. -/
def execIllegal30 (s : State) : Result := unknownOpcode 0x30 s

/-- R112: byte 0x38, illegal. -/
def execIllegal38 (s : State) : Result := unknownOpcode 0x38 s

/-- R325: HLT. -/
def execHlt (s : State) : Result := haltCore s

/-- R112: byte 0xCB, illegal. -/
def execIllegalCB (s : State) : Result := unknownOpcode 0xCB s

/-- R112: byte 0xD9, illegal. -/
def execIllegalD9 (s : State) : Result := unknownOpcode 0xD9 s

/-- R112: byte 0xDD, illegal. -/
def execIllegalDD (s : State) : Result := unknownOpcode 0xDD s

/-- R112: byte 0xED, illegal. -/
def execIllegalED (s : State) : Result := unknownOpcode 0xED s

/-- R322: DI. -/
def execDi (s : State) : Result := writeIe false s

/-- R321: EI. -/
def execEi (s : State) : Result := writeIe true s

/-- R112: byte 0xFD, illegal. -/
def execIllegalFD (s : State) : Result := unknownOpcode 0xFD s

end Sys2Proof.Machine
end

