-- ==== Sys2Proof/Machine/RotateFlag.lean ====
section
/-! DEFINITION. The rotate and flag instructions (43_rotate_flag.md R230-R236): the shared operations, then one meaning per row
of the table. They write CY only; CMA writes no flag. -/

namespace Sys2Proof.Machine

/-- RLC (R230): the new A and CY from A and CY. -/
def rotateLeft (a : Byte) (_c : Bool) : Byte × Bool := (a <<< 1 ||| bitAt (a.getLsbD 7) 0, a.getLsbD 7)

/-- RRC (R231). -/
def rotateRight (a : Byte) (_c : Bool) : Byte × Bool := (a >>> 1 ||| bitAt (a.getLsbD 0) 7, a.getLsbD 0)

/-- RAL (R232). -/
def rotateLeftCarry (a : Byte) (c : Bool) : Byte × Bool := (a <<< 1 ||| bitAt c 0, a.getLsbD 7)

/-- RAR (R233). -/
def rotateRightCarry (a : Byte) (c : Bool) : Byte × Bool := (a >>> 1 ||| bitAt c 7, a.getLsbD 0)

/-- The four rotates: A and CY take what `f` gives. -/
def rotateA (f : Byte → Bool → Byte × Bool) (s : State) : Result :=
  complete 4 (((s.enter 1).setReg .a (f s.regs.a s.flags.cy).1).setCy (f s.regs.a s.flags.cy).2)

/-- CMA (R234). -/
def complementA (s : State) : Result := complete 4 ((s.enter 1).setReg .a (~~~s.regs.a))

/-- STC (R235). -/
def writeCarry (v : Bool) (s : State) : Result := complete 4 ((s.enter 1).setCy v)

/-- CMC (R236). -/
def complementCarry (s : State) : Result := complete 4 ((s.enter 1).setCy (!s.flags.cy))

/-- R230: RLC. -/
def execRlc (s : State) : Result := rotateA rotateLeft s

/-- R231: RRC. -/
def execRrc (s : State) : Result := rotateA rotateRight s

/-- R232: RAL. -/
def execRal (s : State) : Result := rotateA rotateLeftCarry s

/-- R233: RAR. -/
def execRar (s : State) : Result := rotateA rotateRightCarry s

/-- R234: CMA. -/
def execCma (s : State) : Result := complementA s

/-- R235: STC. -/
def execStc (s : State) : Result := writeCarry true s

/-- R236: CMC. -/
def execCmc (s : State) : Result := complementCarry s

end Sys2Proof.Machine
end

