-- ==== Sys2Proof/Machine/StackControl.lean ====
section
/-! DEFINITION. The stack and control-transfer instructions (44_stack_control.md R254-R268): the shared operations, then one
meaning per row of the table. Only POP PSW writes a flag. -/

namespace Sys2Proof.Machine

/-- JMP (R255): the target replaces PC. -/
def jumpTo (len cycles : Nat) (target : Word) (s : State) : Result := complete cycles ((s.enter len).setPc target)

/-- Jcc (R256): 10 cycles on both paths (R396, C3). -/
def jumpIf (cc : Cond) (target : Word) (s : State) : Result :=
  if s.flags.cond cc then jumpTo 3 10 target s else complete 10 (s.enter 3)

/-- CALL and RST (R257, R261): the return address is next. -/
def callTo (len cycles : Nat) (target : Word) (s : State) : Result :=
  (callFlow target (s.enter len).pc s.pc (s.enter len)).finish cycles

/-- Ccc (R258): not taken, nothing but PC = next (R254). -/
def callIf (cc : Cond) (target : Word) (s : State) : Result :=
  if s.flags.cond cc then callTo 3 17 target s else complete 11 (s.enter 3)

/-- RET (R259). -/
def returnWith (cycles : Nat) (s : State) : Result := complete cycles (s.enter 1).returned

/-- Rcc (R260): not taken, nothing but PC = next (R254). -/
def returnIf (cc : Cond) (s : State) : Result := if s.flags.cond cc then returnWith 11 s else complete 5 (s.enter 1)

/-- PCHL (R262). -/
def jumpToHl (s : State) : Result := jumpTo 1 5 s.hl s

/-- The 16-bit value PUSH stores: a pair, or the PSW, A high and the flag byte low (R39, R263, R264). -/
def State.stackPair (s : State) : StackPair → Word
  | .bc => s.bc
  | .de => s.de
  | .hl => s.hl
  | .psw => pairOf s.regs.a (flagsToByte s.flags)

/-- What POP does with the popped value (R265, R266). -/
def State.setStackPair (s : State) (p : StackPair) (v : Word) : State :=
  match p with
  | .bc => s.setRp16 .bc v
  | .de => s.setRp16 .de v
  | .hl => s.setRp16 .hl v
  | .psw => (s.setFlags (byteToFlags (loByte v))).setReg .a (hiByte v)

/-- PUSH (R263, R264). -/
def pushPair (p : StackPair) (s : State) : Result :=
  (push16 (hiByte (s.stackPair p)) (loByte (s.stackPair p)) s.pc (s.enter 1)).finish 11

/-- POP (R265, R266). -/
def popPair (p : StackPair) (s : State) : Result := complete 10 ((s.enter 1).popped.setStackPair p s.topWord)

/-- XTHL (R267): L is written first, and H and L change only if both writes succeed. -/
def exchangeTopHl (s : State) : Result :=
  ((memWrite16 s.sp s.hl s.pc (s.enter 1)).andThen fun s1 => .go (s1.setRp16 .hl s.topWord)).finish 18

/-- SPHL (R268). -/
def loadSpFromHl (s : State) : Result := complete 5 ((s.enter 1).setSp s.hl)

/-- R260: RNZ. -/
def execRnz (s : State) : Result := returnIf .nz s

/-- R265: POP B. -/
def execPopB (s : State) : Result := popPair .bc s

/-- R256: JNZ a16. -/
def execJnz (imm : Word) (s : State) : Result := jumpIf .nz imm s

/-- R255: JMP a16. -/
def execJmp (imm : Word) (s : State) : Result := jumpTo 3 10 imm s

/-- R258: CNZ a16. -/
def execCnz (imm : Word) (s : State) : Result := callIf .nz imm s

/-- R263: PUSH B. -/
def execPushB (s : State) : Result := pushPair .bc s

/-- R261: RST 0. -/
def execRst0 (s : State) : Result := callTo 1 11 (vectorAddress 0) s

/-- R260: RZ. -/
def execRz (s : State) : Result := returnIf .z s

/-- R259: RET. -/
def execRet (s : State) : Result := returnWith 10 s

/-- R256: JZ a16. -/
def execJz (imm : Word) (s : State) : Result := jumpIf .z imm s

/-- R258: CZ a16. -/
def execCz (imm : Word) (s : State) : Result := callIf .z imm s

/-- R257: CALL a16. -/
def execCall (imm : Word) (s : State) : Result := callTo 3 17 imm s

/-- R261: RST 1. -/
def execRst1 (s : State) : Result := callTo 1 11 (vectorAddress 1) s

/-- R260: RNC. -/
def execRnc (s : State) : Result := returnIf .nc s

/-- R265: POP D. -/
def execPopD (s : State) : Result := popPair .de s

/-- R256: JNC a16. -/
def execJnc (imm : Word) (s : State) : Result := jumpIf .nc imm s

/-- R258: CNC a16. -/
def execCnc (imm : Word) (s : State) : Result := callIf .nc imm s

/-- R263: PUSH D. -/
def execPushD (s : State) : Result := pushPair .de s

/-- R261: RST 2. -/
def execRst2 (s : State) : Result := callTo 1 11 (vectorAddress 2) s

/-- R260: RC. -/
def execRc (s : State) : Result := returnIf .c s

/-- R256: JC a16. -/
def execJc (imm : Word) (s : State) : Result := jumpIf .c imm s

/-- R258: CC a16. -/
def execCc (imm : Word) (s : State) : Result := callIf .c imm s

/-- R261: RST 3. -/
def execRst3 (s : State) : Result := callTo 1 11 (vectorAddress 3) s

/-- R260: RPO. -/
def execRpo (s : State) : Result := returnIf .po s

/-- R265: POP H. -/
def execPopH (s : State) : Result := popPair .hl s

/-- R256: JPO a16. -/
def execJpo (imm : Word) (s : State) : Result := jumpIf .po imm s

/-- R267: XTHL. -/
def execXthl (s : State) : Result := exchangeTopHl s

/-- R258: CPO a16. -/
def execCpo (imm : Word) (s : State) : Result := callIf .po imm s

/-- R263: PUSH H. -/
def execPushH (s : State) : Result := pushPair .hl s

/-- R261: RST 4. -/
def execRst4 (s : State) : Result := callTo 1 11 (vectorAddress 4) s

/-- R260: RPE. -/
def execRpe (s : State) : Result := returnIf .pe s

/-- R262: PCHL. -/
def execPchl (s : State) : Result := jumpToHl s

/-- R256: JPE a16. -/
def execJpe (imm : Word) (s : State) : Result := jumpIf .pe imm s

/-- R258: CPE a16. -/
def execCpe (imm : Word) (s : State) : Result := callIf .pe imm s

/-- R261: RST 5. -/
def execRst5 (s : State) : Result := callTo 1 11 (vectorAddress 5) s

/-- R260: RP. -/
def execRp (s : State) : Result := returnIf .p s

/-- R266: POP PSW. -/
def execPopPsw (s : State) : Result := popPair .psw s

/-- R256: JP a16. -/
def execJp (imm : Word) (s : State) : Result := jumpIf .p imm s

/-- R258: CP a16. -/
def execCp (imm : Word) (s : State) : Result := callIf .p imm s

/-- R264: PUSH PSW. -/
def execPushPsw (s : State) : Result := pushPair .psw s

/-- R261: RST 6. -/
def execRst6 (s : State) : Result := callTo 1 11 (vectorAddress 6) s

/-- R260: RM. -/
def execRm (s : State) : Result := returnIf .m s

/-- R268: SPHL. -/
def execSphl (s : State) : Result := loadSpFromHl s

/-- R256: JM a16. -/
def execJm (imm : Word) (s : State) : Result := jumpIf .m imm s

/-- R258: CM a16. -/
def execCm (imm : Word) (s : State) : Result := callIf .m imm s

/-- R261: RST 7. -/
def execRst7 (s : State) : Result := callTo 1 11 (vectorAddress 7) s

end Sys2Proof.Machine
end

