-- ==== Sys2Proof/Machine/Step.lean ====
section
/-! DEFINITION. The host call execute() (40_engine_flags.md R130, R131), and an instruction placed where it is fetched. -/

namespace Sys2Proof.Machine

/-- `execute()` (R130): a no-op once FAULT is set (R341), an idle step while halted (R131), else the fetched instruction. -/
def step (s : State) : Host.Outcome State Fault Refusal :=
  match s.fault with
  | some _ => stoppedStep s
  | none => if s.halt then idleStep s else exec (fetchInstr s) s

/-- `s` with the instruction of a table word stored at PC, as a load of the image would store it (R80), and with nothing that
keeps `step` from fetching: FAULT empty and HALT 0 (log 9). -/
def State.withFetchWord (s : State) (nbits w : Nat) : State :=
  { ((s.poke s.pc (BitVec.ofNat 8 (w % 2 ^ nbits))).poke (s.pc + 1) (BitVec.ofNat 8 (w % 2 ^ nbits / 256))).poke (s.pc + 2)
      (BitVec.ofNat 8 (w % 2 ^ nbits / 65536)) with
    fault := none
    halt := false }

end Sys2Proof.Machine
end

