-- ==== Sys2Proof/Machine/HostCalls.lean ====
section
/-! DEFINITION. The host interface (60_exceptions.md R350-R364): every call the host may make, what it changes and what it gets
back. A step of the spec is one of these calls (00_scope.md R9); `step` is the first of them. -/

namespace Sys2Proof.Machine

/-- A call that would change the core is a no-op once FAULT is set (R341). -/
def unlessStopped (s : State) (r : Result) : Result :=
  match s.fault with
  | some _ => .next s
  | none => r

/-- `raise(vector)` (R351-R354). -/
def raiseInterrupt (vector : Byte) (s : State) : Result :=
  unlessStopped s
    (if vector.toNat > 7 then .refused (.vectorOutOfRange vector)
    else if s.ie then
      match acceptInterrupt vector.toNat s with
      | .go t => .next t
      | .stop t => .next t
    else .next s)

/-- `set_interrupts_enabled(b)` (R356). -/
def setInterruptsEnabled (b : Bool) (s : State) : Result := unlessStopped s (.next (s.setIe b))

/-- `set_input_port(p, v)` (R299). -/
def setInputPort (p v : Byte) (s : State) : Result :=
  unlessStopped s (.next { s with inSnap := s.inSnap.write p.toNat v })

/-- `load_image(bytes, origin)` (R80, R344): all or nothing, with no write protection. -/
def loadImage (bytes : List Byte) (origin : Word) (s : State) : Result :=
  unlessStopped s
    (if origin.toNat + bytes.length > Config.romHi + 1 then .next (s.raiseError (.imageTooLarge origin bytes.length))
    else .next { s with mem := Cells.load s.mem origin.toNat bytes })

/-- The host's calls (R363). -/
inductive HostCall where
  | execute
  | raise (vector : Byte)
  | setInterruptsEnabled (b : Bool)
  | setInputPort (p v : Byte)
  | loadImage (bytes : List Byte) (origin : Word)
  | readMemory (addr : Word)
  | readLatch (p : Byte)
  | readFault
  deriving DecidableEq, Repr

/-- What a call changes (R363). The three reads change nothing (R303, R364, R341). -/
def hostCall (c : HostCall) (s : State) : Result :=
  match c with
  | .execute => step s
  | .raise v => raiseInterrupt v s
  | .setInterruptsEnabled b => Sys2Proof.Machine.setInterruptsEnabled b s
  | .setInputPort p v => Sys2Proof.Machine.setInputPort p v s
  | .loadImage bytes origin => Sys2Proof.Machine.loadImage bytes origin s
  | .readMemory _ => .next s
  | .readLatch _ => .next s
  | .readFault => .next s

/-- What the host gets back from a call (R363). -/
inductive Reply where
  /-- no output -/
  | nothing
  /-- the cycle count and events of a completed execute() (R133, R362) -/
  | output (o : Output)
  /-- the fatal error the call raised (R340, R341) -/
  | raised (record : ErrorRecord)
  /-- a byte of memory or of a latch -/
  | byte (v : Byte)
  /-- FAULT -/
  | faultRecord (f : Option ErrorRecord)
  deriving DecidableEq, Repr

/-- The reply to a call that may change the core and took it from `s` to `t`: nothing if the core had stopped before (R341), the
error if the call raised one, else `own`, the reply of a call that completes. -/
def replyUnlessRaised (s t : State) (own : Reply) : Reply :=
  match s.fault, t.fault with
  | some _, _ => .nothing
  | none, some record => .raised record
  | none, none => own

/-- The reply to the call `c` that took the core from `s` to `t`: the column "gets back" of R363. -/
def hostReply (c : HostCall) (s t : State) : Reply :=
  match c with
  | .execute => replyUnlessRaised s t (.output t.out)
  | .raise _ => replyUnlessRaised s t .nothing
  | .setInterruptsEnabled _ => replyUnlessRaised s t .nothing
  | .setInputPort _ _ => replyUnlessRaised s t .nothing
  | .loadImage _ _ => replyUnlessRaised s t .nothing
  | .readMemory addr => .byte (t.readByte addr)
  | .readLatch p => .byte (t.outLatch.read p.toNat)
  | .readFault => .faultRecord t.fault

/-- A run: the host's calls one after another (R85, R375). A fatal error does not end it: the calls that follow change nothing, and
the host may still read (R341). A refused call ends it (R10). -/
def runCalls : List HostCall → State → Result
  | [], s => .next s
  | c :: rest, s =>
    match hostCall c s with
    | .next t => runCalls rest t
    | .fault r => .fault r
    | .refused r => .refused r

/-- What the host gets back from the calls of a run, in order (R363). -/
def runReplies : List HostCall → State → List Reply
  | [], _ => []
  | c :: rest, s =>
    match hostCall c s with
    | .next t => hostReply c s t :: runReplies rest t
    | .fault _ => []
    | .refused _ => []

/-- The code of a fatal error (R340). -/
def ErrorRecord.code : ErrorRecord → Nat
  | .writeProtectionViolation _ _ _ => 1
  | .unknownOpcode _ _ => 2
  | .imageTooLarge _ _ => 3

end Sys2Proof.Machine
end

