-- ==== Sys2Proof/Machine/Timing.lean ====
section
/-! DEFINITION. The cycle counts as data: the fields `cycles` and `cycles_not_taken` of spec/opcode_table.json
(70_reset_and_hazards.md R395, R396). No meaning reads this table: the meanings carry the counts of R395's groups. -/

namespace Sys2Proof.Machine

/-- The field `cycles` of the instruction's row (R133); the twelve illegal rows have none. -/
def cyclesOf : Instr → Option Nat
  | .nop => some 4
  | .lxiB _ => some 10
  | .staxB => some 7
  | .inxB => some 5
  | .inrB => some 5
  | .dcrB => some 5
  | .mviB _ => some 7
  | .rlc => some 4
  | .illegal08 => none
  | .dadB => some 10
  | .ldaxB => some 7
  | .dcxB => some 5
  | .inrC => some 5
  | .dcrC => some 5
  | .mviC _ => some 7
  | .rrc => some 4
  | .illegal10 => none
  | .lxiD _ => some 10
  | .staxD => some 7
  | .inxD => some 5
  | .inrD => some 5
  | .dcrD => some 5
  | .mviD _ => some 7
  | .ral => some 4
  | .illegal18 => none
  | .dadD => some 10
  | .ldaxD => some 7
  | .dcxD => some 5
  | .inrE => some 5
  | .dcrE => some 5
  | .mviE _ => some 7
  | .rar => some 4
  | .illegal20 => none
  | .lxiH _ => some 10
  | .shld _ => some 16
  | .inxH => some 5
  | .inrH => some 5
  | .dcrH => some 5
  | .mviH _ => some 7
  | .daa => some 4
  | .illegal28 => none
  | .dadH => some 10
  | .lhld _ => some 16
  | .dcxH => some 5
  | .inrL => some 5
  | .dcrL => some 5
  | .mviL _ => some 7
  | .cma => some 4
  | .illegal30 => none
  | .lxiSp _ => some 10
  | .sta _ => some 13
  | .inxSp => some 5
  | .inrM => some 10
  | .dcrM => some 10
  | .mviM _ => some 10
  | .stc => some 4
  | .illegal38 => none
  | .dadSp => some 10
  | .lda _ => some 13
  | .dcxSp => some 5
  | .inrA => some 5
  | .dcrA => some 5
  | .mviA _ => some 7
  | .cmc => some 4
  | .movBB => some 5
  | .movBC => some 5
  | .movBD => some 5
  | .movBE => some 5
  | .movBH => some 5
  | .movBL => some 5
  | .movBM => some 7
  | .movBA => some 5
  | .movCB => some 5
  | .movCC => some 5
  | .movCD => some 5
  | .movCE => some 5
  | .movCH => some 5
  | .movCL => some 5
  | .movCM => some 7
  | .movCA => some 5
  | .movDB => some 5
  | .movDC => some 5
  | .movDD => some 5
  | .movDE => some 5
  | .movDH => some 5
  | .movDL => some 5
  | .movDM => some 7
  | .movDA => some 5
  | .movEB => some 5
  | .movEC => some 5
  | .movED => some 5
  | .movEE => some 5
  | .movEH => some 5
  | .movEL => some 5
  | .movEM => some 7
  | .movEA => some 5
  | .movHB => some 5
  | .movHC => some 5
  | .movHD => some 5
  | .movHE => some 5
  | .movHH => some 5
  | .movHL => some 5
  | .movHM => some 7
  | .movHA => some 5
  | .movLB => some 5
  | .movLC => some 5
  | .movLD => some 5
  | .movLE => some 5
  | .movLH => some 5
  | .movLL => some 5
  | .movLM => some 7
  | .movLA => some 5
  | .movMB => some 7
  | .movMC => some 7
  | .movMD => some 7
  | .movME => some 7
  | .movMH => some 7
  | .movML => some 7
  | .hlt => some 7
  | .movMA => some 7
  | .movAB => some 5
  | .movAC => some 5
  | .movAD => some 5
  | .movAE => some 5
  | .movAH => some 5
  | .movAL => some 5
  | .movAM => some 7
  | .movAA => some 5
  | .addB => some 4
  | .addC => some 4
  | .addD => some 4
  | .addE => some 4
  | .addH => some 4
  | .addL => some 4
  | .addM => some 7
  | .addA => some 4
  | .adcB => some 4
  | .adcC => some 4
  | .adcD => some 4
  | .adcE => some 4
  | .adcH => some 4
  | .adcL => some 4
  | .adcM => some 7
  | .adcA => some 4
  | .subB => some 4
  | .subC => some 4
  | .subD => some 4
  | .subE => some 4
  | .subH => some 4
  | .subL => some 4
  | .subM => some 7
  | .subA => some 4
  | .sbbB => some 4
  | .sbbC => some 4
  | .sbbD => some 4
  | .sbbE => some 4
  | .sbbH => some 4
  | .sbbL => some 4
  | .sbbM => some 7
  | .sbbA => some 4
  | .anaB => some 4
  | .anaC => some 4
  | .anaD => some 4
  | .anaE => some 4
  | .anaH => some 4
  | .anaL => some 4
  | .anaM => some 7
  | .anaA => some 4
  | .xraB => some 4
  | .xraC => some 4
  | .xraD => some 4
  | .xraE => some 4
  | .xraH => some 4
  | .xraL => some 4
  | .xraM => some 7
  | .xraA => some 4
  | .oraB => some 4
  | .oraC => some 4
  | .oraD => some 4
  | .oraE => some 4
  | .oraH => some 4
  | .oraL => some 4
  | .oraM => some 7
  | .oraA => some 4
  | .cmpB => some 4
  | .cmpC => some 4
  | .cmpD => some 4
  | .cmpE => some 4
  | .cmpH => some 4
  | .cmpL => some 4
  | .cmpM => some 7
  | .cmpA => some 4
  | .rnz => some 11
  | .popB => some 10
  | .jnz _ => some 10
  | .jmp _ => some 10
  | .cnz _ => some 17
  | .pushB => some 11
  | .adi _ => some 7
  | .rst0 => some 11
  | .rz => some 11
  | .ret => some 10
  | .jz _ => some 10
  | .illegalCB => none
  | .cz _ => some 17
  | .call _ => some 17
  | .aci _ => some 7
  | .rst1 => some 11
  | .rnc => some 11
  | .popD => some 10
  | .jnc _ => some 10
  | .outPort _ => some 10
  | .cnc _ => some 17
  | .pushD => some 11
  | .sui _ => some 7
  | .rst2 => some 11
  | .rc => some 11
  | .illegalD9 => none
  | .jc _ => some 10
  | .inPort _ => some 10
  | .cc _ => some 17
  | .illegalDD => none
  | .sbi _ => some 7
  | .rst3 => some 11
  | .rpo => some 11
  | .popH => some 10
  | .jpo _ => some 10
  | .xthl => some 18
  | .cpo _ => some 17
  | .pushH => some 11
  | .ani _ => some 7
  | .rst4 => some 11
  | .rpe => some 11
  | .pchl => some 5
  | .jpe _ => some 10
  | .xchg => some 4
  | .cpe _ => some 17
  | .illegalED => none
  | .xri _ => some 7
  | .rst5 => some 11
  | .rp => some 11
  | .popPsw => some 10
  | .jp _ => some 10
  | .di => some 4
  | .cp _ => some 17
  | .pushPsw => some 11
  | .ori _ => some 7
  | .rst6 => some 11
  | .rm => some 11
  | .sphl => some 5
  | .jm _ => some 10
  | .ei => some 4
  | .cm _ => some 17
  | .illegalFD => none
  | .cpi _ => some 7
  | .rst7 => some 11

/-- The field `cycles_not_taken` of the instruction's row (R133, R396); only the conditional rows have one. -/
def cyclesNotTakenOf : Instr → Option Nat
  | .nop => none
  | .lxiB _ => none
  | .staxB => none
  | .inxB => none
  | .inrB => none
  | .dcrB => none
  | .mviB _ => none
  | .rlc => none
  | .illegal08 => none
  | .dadB => none
  | .ldaxB => none
  | .dcxB => none
  | .inrC => none
  | .dcrC => none
  | .mviC _ => none
  | .rrc => none
  | .illegal10 => none
  | .lxiD _ => none
  | .staxD => none
  | .inxD => none
  | .inrD => none
  | .dcrD => none
  | .mviD _ => none
  | .ral => none
  | .illegal18 => none
  | .dadD => none
  | .ldaxD => none
  | .dcxD => none
  | .inrE => none
  | .dcrE => none
  | .mviE _ => none
  | .rar => none
  | .illegal20 => none
  | .lxiH _ => none
  | .shld _ => none
  | .inxH => none
  | .inrH => none
  | .dcrH => none
  | .mviH _ => none
  | .daa => none
  | .illegal28 => none
  | .dadH => none
  | .lhld _ => none
  | .dcxH => none
  | .inrL => none
  | .dcrL => none
  | .mviL _ => none
  | .cma => none
  | .illegal30 => none
  | .lxiSp _ => none
  | .sta _ => none
  | .inxSp => none
  | .inrM => none
  | .dcrM => none
  | .mviM _ => none
  | .stc => none
  | .illegal38 => none
  | .dadSp => none
  | .lda _ => none
  | .dcxSp => none
  | .inrA => none
  | .dcrA => none
  | .mviA _ => none
  | .cmc => none
  | .movBB => none
  | .movBC => none
  | .movBD => none
  | .movBE => none
  | .movBH => none
  | .movBL => none
  | .movBM => none
  | .movBA => none
  | .movCB => none
  | .movCC => none
  | .movCD => none
  | .movCE => none
  | .movCH => none
  | .movCL => none
  | .movCM => none
  | .movCA => none
  | .movDB => none
  | .movDC => none
  | .movDD => none
  | .movDE => none
  | .movDH => none
  | .movDL => none
  | .movDM => none
  | .movDA => none
  | .movEB => none
  | .movEC => none
  | .movED => none
  | .movEE => none
  | .movEH => none
  | .movEL => none
  | .movEM => none
  | .movEA => none
  | .movHB => none
  | .movHC => none
  | .movHD => none
  | .movHE => none
  | .movHH => none
  | .movHL => none
  | .movHM => none
  | .movHA => none
  | .movLB => none
  | .movLC => none
  | .movLD => none
  | .movLE => none
  | .movLH => none
  | .movLL => none
  | .movLM => none
  | .movLA => none
  | .movMB => none
  | .movMC => none
  | .movMD => none
  | .movME => none
  | .movMH => none
  | .movML => none
  | .hlt => none
  | .movMA => none
  | .movAB => none
  | .movAC => none
  | .movAD => none
  | .movAE => none
  | .movAH => none
  | .movAL => none
  | .movAM => none
  | .movAA => none
  | .addB => none
  | .addC => none
  | .addD => none
  | .addE => none
  | .addH => none
  | .addL => none
  | .addM => none
  | .addA => none
  | .adcB => none
  | .adcC => none
  | .adcD => none
  | .adcE => none
  | .adcH => none
  | .adcL => none
  | .adcM => none
  | .adcA => none
  | .subB => none
  | .subC => none
  | .subD => none
  | .subE => none
  | .subH => none
  | .subL => none
  | .subM => none
  | .subA => none
  | .sbbB => none
  | .sbbC => none
  | .sbbD => none
  | .sbbE => none
  | .sbbH => none
  | .sbbL => none
  | .sbbM => none
  | .sbbA => none
  | .anaB => none
  | .anaC => none
  | .anaD => none
  | .anaE => none
  | .anaH => none
  | .anaL => none
  | .anaM => none
  | .anaA => none
  | .xraB => none
  | .xraC => none
  | .xraD => none
  | .xraE => none
  | .xraH => none
  | .xraL => none
  | .xraM => none
  | .xraA => none
  | .oraB => none
  | .oraC => none
  | .oraD => none
  | .oraE => none
  | .oraH => none
  | .oraL => none
  | .oraM => none
  | .oraA => none
  | .cmpB => none
  | .cmpC => none
  | .cmpD => none
  | .cmpE => none
  | .cmpH => none
  | .cmpL => none
  | .cmpM => none
  | .cmpA => none
  | .rnz => some 5
  | .popB => none
  | .jnz _ => some 10
  | .jmp _ => none
  | .cnz _ => some 11
  | .pushB => none
  | .adi _ => none
  | .rst0 => none
  | .rz => some 5
  | .ret => none
  | .jz _ => some 10
  | .illegalCB => none
  | .cz _ => some 11
  | .call _ => none
  | .aci _ => none
  | .rst1 => none
  | .rnc => some 5
  | .popD => none
  | .jnc _ => some 10
  | .outPort _ => none
  | .cnc _ => some 11
  | .pushD => none
  | .sui _ => none
  | .rst2 => none
  | .rc => some 5
  | .illegalD9 => none
  | .jc _ => some 10
  | .inPort _ => none
  | .cc _ => some 11
  | .illegalDD => none
  | .sbi _ => none
  | .rst3 => none
  | .rpo => some 5
  | .popH => none
  | .jpo _ => some 10
  | .xthl => none
  | .cpo _ => some 11
  | .pushH => none
  | .ani _ => none
  | .rst4 => none
  | .rpe => some 5
  | .pchl => none
  | .jpe _ => some 10
  | .xchg => none
  | .cpe _ => some 11
  | .illegalED => none
  | .xri _ => none
  | .rst5 => none
  | .rp => some 5
  | .popPsw => none
  | .jp _ => some 10
  | .di => none
  | .cp _ => some 11
  | .pushPsw => none
  | .ori _ => none
  | .rst6 => none
  | .rm => some 5
  | .sphl => none
  | .jm _ => some 10
  | .ei => none
  | .cm _ => some 11
  | .illegalFD => none
  | .cpi _ => none
  | .rst7 => none

end Sys2Proof.Machine
end

