-- ==== Sys2Proof/WellFormed.lean ====
section
/-! DEFINITION. Which instructions are well-formed: the 244 documented ones (30_encoding.md R111, R112). Operand values
need no check: every value of every operand is accepted (R113), and the types of Syntax.lean hold no other. -/

namespace Sys2Proof

/-- The instruction stands for one of the twelve illegal bytes (R112). -/
def Instr.isIllegal : Instr → Bool
  | .illegal08 => true
  | .illegal10 => true
  | .illegal18 => true
  | .illegal20 => true
  | .illegal28 => true
  | .illegal30 => true
  | .illegal38 => true
  | .illegalCB => true
  | .illegalD9 => true
  | .illegalDD => true
  | .illegalED => true
  | .illegalFD => true
  | .nop => false
  | .lxiB _ => false
  | .staxB => false
  | .inxB => false
  | .inrB => false
  | .dcrB => false
  | .mviB _ => false
  | .rlc => false
  | .dadB => false
  | .ldaxB => false
  | .dcxB => false
  | .inrC => false
  | .dcrC => false
  | .mviC _ => false
  | .rrc => false
  | .lxiD _ => false
  | .staxD => false
  | .inxD => false
  | .inrD => false
  | .dcrD => false
  | .mviD _ => false
  | .ral => false
  | .dadD => false
  | .ldaxD => false
  | .dcxD => false
  | .inrE => false
  | .dcrE => false
  | .mviE _ => false
  | .rar => false
  | .lxiH _ => false
  | .shld _ => false
  | .inxH => false
  | .inrH => false
  | .dcrH => false
  | .mviH _ => false
  | .daa => false
  | .dadH => false
  | .lhld _ => false
  | .dcxH => false
  | .inrL => false
  | .dcrL => false
  | .mviL _ => false
  | .cma => false
  | .lxiSp _ => false
  | .sta _ => false
  | .inxSp => false
  | .inrM => false
  | .dcrM => false
  | .mviM _ => false
  | .stc => false
  | .dadSp => false
  | .lda _ => false
  | .dcxSp => false
  | .inrA => false
  | .dcrA => false
  | .mviA _ => false
  | .cmc => false
  | .movBB => false
  | .movBC => false
  | .movBD => false
  | .movBE => false
  | .movBH => false
  | .movBL => false
  | .movBM => false
  | .movBA => false
  | .movCB => false
  | .movCC => false
  | .movCD => false
  | .movCE => false
  | .movCH => false
  | .movCL => false
  | .movCM => false
  | .movCA => false
  | .movDB => false
  | .movDC => false
  | .movDD => false
  | .movDE => false
  | .movDH => false
  | .movDL => false
  | .movDM => false
  | .movDA => false
  | .movEB => false
  | .movEC => false
  | .movED => false
  | .movEE => false
  | .movEH => false
  | .movEL => false
  | .movEM => false
  | .movEA => false
  | .movHB => false
  | .movHC => false
  | .movHD => false
  | .movHE => false
  | .movHH => false
  | .movHL => false
  | .movHM => false
  | .movHA => false
  | .movLB => false
  | .movLC => false
  | .movLD => false
  | .movLE => false
  | .movLH => false
  | .movLL => false
  | .movLM => false
  | .movLA => false
  | .movMB => false
  | .movMC => false
  | .movMD => false
  | .movME => false
  | .movMH => false
  | .movML => false
  | .hlt => false
  | .movMA => false
  | .movAB => false
  | .movAC => false
  | .movAD => false
  | .movAE => false
  | .movAH => false
  | .movAL => false
  | .movAM => false
  | .movAA => false
  | .addB => false
  | .addC => false
  | .addD => false
  | .addE => false
  | .addH => false
  | .addL => false
  | .addM => false
  | .addA => false
  | .adcB => false
  | .adcC => false
  | .adcD => false
  | .adcE => false
  | .adcH => false
  | .adcL => false
  | .adcM => false
  | .adcA => false
  | .subB => false
  | .subC => false
  | .subD => false
  | .subE => false
  | .subH => false
  | .subL => false
  | .subM => false
  | .subA => false
  | .sbbB => false
  | .sbbC => false
  | .sbbD => false
  | .sbbE => false
  | .sbbH => false
  | .sbbL => false
  | .sbbM => false
  | .sbbA => false
  | .anaB => false
  | .anaC => false
  | .anaD => false
  | .anaE => false
  | .anaH => false
  | .anaL => false
  | .anaM => false
  | .anaA => false
  | .xraB => false
  | .xraC => false
  | .xraD => false
  | .xraE => false
  | .xraH => false
  | .xraL => false
  | .xraM => false
  | .xraA => false
  | .oraB => false
  | .oraC => false
  | .oraD => false
  | .oraE => false
  | .oraH => false
  | .oraL => false
  | .oraM => false
  | .oraA => false
  | .cmpB => false
  | .cmpC => false
  | .cmpD => false
  | .cmpE => false
  | .cmpH => false
  | .cmpL => false
  | .cmpM => false
  | .cmpA => false
  | .rnz => false
  | .popB => false
  | .jnz _ => false
  | .jmp _ => false
  | .cnz _ => false
  | .pushB => false
  | .adi _ => false
  | .rst0 => false
  | .rz => false
  | .ret => false
  | .jz _ => false
  | .cz _ => false
  | .call _ => false
  | .aci _ => false
  | .rst1 => false
  | .rnc => false
  | .popD => false
  | .jnc _ => false
  | .outPort _ => false
  | .cnc _ => false
  | .pushD => false
  | .sui _ => false
  | .rst2 => false
  | .rc => false
  | .jc _ => false
  | .inPort _ => false
  | .cc _ => false
  | .sbi _ => false
  | .rst3 => false
  | .rpo => false
  | .popH => false
  | .jpo _ => false
  | .xthl => false
  | .cpo _ => false
  | .pushH => false
  | .ani _ => false
  | .rst4 => false
  | .rpe => false
  | .pchl => false
  | .jpe _ => false
  | .xchg => false
  | .cpe _ => false
  | .xri _ => false
  | .rst5 => false
  | .rp => false
  | .popPsw => false
  | .jp _ => false
  | .di => false
  | .cp _ => false
  | .pushPsw => false
  | .ori _ => false
  | .rst6 => false
  | .rm => false
  | .sphl => false
  | .jm _ => false
  | .ei => false
  | .cm _ => false
  | .cpi _ => false
  | .rst7 => false

/-- A well-formed instruction is a documented one (R111). -/
def Instr.wellFormed (i : Instr) : Bool := !i.isIllegal

end Sys2Proof
end

