-- ==== Sys2Proof/Safety.lean ====
section
/-! DEFINITION. What counts as a safe run, and the words the statements use: what a step keeps, what it reports, and how a write
into ROM stops it. -/

namespace Sys2Proof.Machine

/-! ## Safe runs -/

/-- The core fetches at the next execute(): no fatal error is recorded and it is not halted (R130). -/
def Running (s : State) : Prop := s.fault = none ∧ s.halt = false

/-- A state a claim may rely on at the end of a run (R375): no fatal error is recorded. -/
def EndState (s : State) : Prop := s.fault = none

/-- A run of host calls that ends in such a state. -/
def SafeRun (calls : List HostCall) (s : State) : Prop := ∃ t, runCalls calls s = .next t ∧ EndState t

/-- Every state the spec allows right after power-on, whatever the draws (R380, R381, R383, R384). -/
def PowerOn (s : State) : Prop := s.pc = 0 ∧ s.ie = false ∧ s.halt = false ∧ s.fault = none ∧ s.wf = true

/-! ## What a step keeps -/

/-- Every register outside `rs` is unchanged. -/
def KeepsRegs (rs : List Reg) (s t : State) : Prop := ∀ r, r ∉ rs → t.getReg r = s.getReg r

/-- All five flags are unchanged. -/
def KeepsFlags (s t : State) : Prop := t.flags = s.flags

/-- S, Z, AC and P are unchanged; CY may change. -/
def KeepsAllButCy (s t : State) : Prop :=
  t.flags.s = s.flags.s ∧ t.flags.z = s.flags.z ∧ t.flags.ac = s.flags.ac ∧ t.flags.p = s.flags.p

/-- Every byte of memory is unchanged. -/
def KeepsMem (s t : State) : Prop := ∀ x : Word, t.readByte x = s.readByte x

/-- Every byte of memory outside the addresses `as` is unchanged. -/
def KeepsMemBut (as : List Word) (s t : State) : Prop := ∀ x : Word, x ∉ as → t.readByte x = s.readByte x

/-- IE, HALT, FAULT and the model's draw counter are unchanged. -/
def KeepsControl (s t : State) : Prop := t.ie = s.ie ∧ t.halt = s.halt ∧ t.fault = s.fault ∧ t.draws = s.draws

/-- SHIFT, SHIFT_OFF, IN_SNAP and OUT_LATCH are unchanged. -/
def KeepsIo (s t : State) : Prop :=
  t.shift = s.shift ∧ t.shiftOff = s.shiftOff ∧ t.inSnap = s.inSnap ∧ t.outLatch = s.outLatch

/-- The step ends with PC = next for an instruction of `len` bytes (R132) and reports `cycles`, with no event (R133). -/
def Advances (len cycles : Nat) (s t : State) : Prop :=
  t.pc = s.pc + BitVec.ofNat 16 len ∧ t.out = { cycles := some cycles, events := [] }

/-- The step ends with PC = target and reports `cycles`, with no event. -/
def JumpsTo (target : Word) (cycles : Nat) (t : State) : Prop :=
  t.pc = target ∧ t.out = { cycles := some cycles, events := [] }

/-- Everything but the registers `rs`, the flags, PC and the report is unchanged. -/
def OnlyRegsAndFlags (rs : List Reg) (s t : State) : Prop :=
  KeepsRegs rs s t ∧ t.sp = s.sp ∧ KeepsMem s t ∧ KeepsControl s t ∧ KeepsIo s t

/-- Everything but the bytes at `as`, the flags, PC and the report is unchanged. -/
def OnlyMemAndFlags (as : List Word) (s t : State) : Prop :=
  KeepsRegs [] s t ∧ t.sp = s.sp ∧ KeepsMemBut as s t ∧ KeepsControl s t ∧ KeepsIo s t

/-! ## How a write into ROM stops a step -/

/-- The state in which an instruction of `len` bytes stops when its first write, of `v` to `addr`, goes to ROM (R342, R347): PC is
next, FAULT holds the record, nothing is reported, and nothing else has changed. -/
def stoppedAtWrite (s : State) (len : Nat) (addr : Word) (v : Byte) : State :=
  { s with
    pc := s.pc + BitVec.ofNat 16 len
    fault := some (.writeProtectionViolation addr v s.pc)
    out := Output.nothing }

/-- The same for a second write, after a first write of `v1` to `addr1` has been stored (R347). -/
def stoppedAtSecondWrite (s : State) (len : Nat) (addr1 : Word) (v1 : Byte) (addr2 : Word) (v2 : Byte) : State :=
  { stoppedAtWrite s len addr2 v2 with mem := s.mem.write addr1.toNat v1 }

/-- Both bytes a push writes lie outside ROM (R250, R393). -/
def StackInRam (s : State) : Prop := 0x1FFF < (s.sp - 1).toNat ∧ 0x1FFF < (s.sp - 2).toNat

/-- A push of `hi` and `lo` has been done: `hi` at SP - 1, `lo` at SP - 2, SP two lower, every other byte kept (R250). -/
def Pushed (hi lo : Byte) (s t : State) : Prop :=
  t.readByte (s.sp - 1) = hi ∧ t.readByte (s.sp - 2) = lo ∧ t.sp = s.sp - 2 ∧ KeepsMemBut [s.sp - 1, s.sp - 2] s t

/-- How an instruction of `len` bytes whose writes are a push of `hi` and `lo` stops: at the high byte if that goes to ROM, else
at the low byte, with SP and PC = next kept (R250, R348). -/
def PushStops (len : Nat) (hi lo : Byte) (s : State) (r : Result) : Prop :=
  ((s.sp - 1).toNat ≤ 0x1FFF → r = .next (stoppedAtWrite s len (s.sp - 1) hi)) ∧
  (0x1FFF < (s.sp - 1).toNat → (s.sp - 2).toNat ≤ 0x1FFF →
    r = .next (stoppedAtSecondWrite s len (s.sp - 1) hi (s.sp - 2) lo))

/-! ## Encodings, written in the fields of 30_encoding.md R101 apart from the encoder and the decoder -/

/-- The instruction's bytes are the opcode byte numbered `n` and the operand bytes `ops` (R100, R103). -/
def Encodes (i : Instr) (n : Nat) (ops : List Byte) : Prop := encode i = BitVec.ofNat 8 n :: ops

/-- The register code (R105). -/
def regCode : Reg → Nat
  | .b => 0
  | .c => 1
  | .d => 2
  | .e => 3
  | .h => 4
  | .l => 5
  | .a => 7

/-- The register code with the memory operand M (R105). -/
def opCode : Operand → Nat
  | .reg r => regCode r
  | .m => 6

/-- The pair code of LXI, INX, DCX and DAD (R106). -/
def rpCode : Pair → Nat
  | .bc => 0
  | .de => 1
  | .hl => 2
  | .sp => 3

/-- The pair code of PUSH and POP (R106). -/
def ppCode : StackPair → Nat
  | .bc => 0
  | .de => 1
  | .hl => 2
  | .psw => 3

/-- The condition code (R107). -/
def cccCode : Cond → Nat
  | .nz => 0
  | .z => 1
  | .nc => 2
  | .c => 3
  | .po => 4
  | .pe => 5
  | .p => 6
  | .m => 7

/-! ## Numbers of the flag rules, written apart from the model's own flag functions -/

/-- How many of a byte's eight bits are 1 (R141). -/
def onesIn (v : Byte) : Nat := (List.range 8).countP fun i => v.getLsbD i

/-- S, Z and P are those of the byte `v` (R139, R140, R141, R146). -/
def SzpOf (v : Byte) (f : Flags) : Prop :=
  (f.s = true ↔ 128 ≤ v.toNat) ∧ (f.z = true ↔ v = 0) ∧ (f.p = true ↔ onesIn v % 2 = 0)

/-- The cycles of an 8-bit operation by its operand (R395). -/
def aluCycles : Operand → Nat
  | .reg _ => 4
  | .m => 7

/-- A and the flags after `A + v + c` (R180, R182, R142, R144). -/
def Added (v : Byte) (c : Nat) (s t : State) : Prop :=
  t.regs.a.toNat = (s.regs.a.toNat + v.toNat + c) % 256 ∧
  (t.flags.cy = true ↔ 255 < s.regs.a.toNat + v.toNat + c) ∧
  (t.flags.ac = true ↔ 15 < s.regs.a.toNat % 16 + v.toNat % 16 + c) ∧ SzpOf t.regs.a t.flags

/-- The flags after `A - v - c`, whose result is `r` (R184, R186, R143, R145). -/
def BorrowFlags (v : Byte) (c : Nat) (r : Byte) (s t : State) : Prop :=
  r.toNat = (s.regs.a.toNat + 512 - v.toNat - c) % 256 ∧
  (t.flags.cy = true ↔ s.regs.a.toNat < v.toNat + c) ∧
  (t.flags.ac = true ↔ v.toNat % 16 + c ≤ s.regs.a.toNat % 16) ∧ SzpOf r t.flags

/-- A and the flags after a logical operation with result `r` (R188-R193). -/
def LogicDone (r : Byte) (t : State) : Prop :=
  t.regs.a = r ∧ t.flags.cy = false ∧ t.flags.ac = false ∧ SzpOf r t.flags

/-- The two decimal digits of a packed BCD byte, and its value. -/
def isBcd (v : Byte) : Prop := v.toNat / 16 ≤ 9 ∧ v.toNat % 16 ≤ 9

/-- The number a packed BCD byte stands for. -/
def bcdValue (v : Byte) : Nat := v.toNat / 16 * 10 + v.toNat % 16

end Sys2Proof.Machine
end

