-- ==== Sys2Proof/Certificates/Slice0/Obligations.lean ====
section
/-! DEFINITION. The statements for the provers. `exec` is one instruction, `step` one execute(), `hostCall` one host call. A
statement about a state's memory after a store takes as premise that the memory is canonical, an invariant every call keeps
(`EveryCallKeepsCanonicalForm`). The registers, flags and SP are those of ANY state: nothing rests on a power-on draw. -/

open Sys2Proof Sys2Proof.Machine

/-! ## Encoding and fetching -/

/-- R100, R103, R109: decoding the bytes of an instruction gives the instruction, every operand value kept. -/
def Obligations.DecodeOfEncodeIsTheInstruction : Prop :=
  ∀ (i : Instr) (rest : List Byte), decode (encode i ++ rest) = .ok (i, rest)

/-- R110, R111: the bytes decoded are the bytes encoded, so no two byte strings are one instruction. -/
def Obligations.EncodeOfDecodeGivesTheBytesBack : Prop :=
  ∀ (bs : List Byte) (i : Instr) (rest : List Byte), decode bs = .ok (i, rest) → encode i ++ rest = bs

/-- R109, R103: words written out from the opcode map and the formats of R102, one per format. -/
def Obligations.SampleWordsDecodeAsTheMapSays : Prop :=
  decode [0b01010111] = .ok (.movDA, []) ∧
  decode [0b00010001, 0x34, 0x12] = .ok (.lxiD 0x1234, []) ∧
  decode [0b00110110, 0x5A] = .ok (.mviM 0x5A, []) ∧
  decode [0b10011110] = .ok (.sbbM, []) ∧
  decode [0b11101110, 0xFF] = .ok (.xri 0xFF, []) ∧
  decode [0b00111001] = .ok (.dadSp, []) ∧
  decode [0b00011111] = .ok (.rar, []) ∧
  decode [0b11110101] = .ok (.pushPsw, []) ∧
  decode [0b11101100, 0xCD, 0xAB] = .ok (.cpe 0xABCD, []) ∧
  decode [0b11011000] = .ok (.rc, []) ∧
  decode [0b11110111] = .ok (.rst6, []) ∧
  decode [0b11011011, 0x03] = .ok (.inPort 0x03, []) ∧
  decode [0b01110110] = .ok (.hlt, []) ∧
  decode [0b11011101] = .ok (.illegalDD, [])

/-- R130: a running core whose bytes at PC decode to an instruction runs it, in the state it is in. -/
def Obligations.StepRunsTheDecodedInstruction : Prop :=
  ∀ (s : State) (i : Instr) (rest : List Byte), Running s →
    decode [s.readByte s.pc, s.readByte (s.pc + 1), s.readByte (s.pc + 2)] = .ok (i, rest) → step s = exec i s

/-- R112, R134, R343: the twelve bytes, and no other, raise UnknownOpcode; PC stays, and nothing but FAULT changes. -/
def Obligations.IllegalByteRaisesUnknownOpcode : Prop :=
  (∀ (op b1 b2 : Byte), (decodeOp op b1 b2).isIllegal = true ↔
    op ∈ ([0x08, 0x10, 0x18, 0x20, 0x28, 0x30, 0x38, 0xCB, 0xD9, 0xDD, 0xED, 0xFD] : List Byte)) ∧
  (∀ (i : Instr) (s : State), i.isIllegal = true →
    exec i s = .next { s with fault := some (.unknownOpcode i.opcode s.pc), out := Output.nothing }) ∧
  (∀ s : State, Running s →
    s.readByte s.pc ∈ ([0x08, 0x10, 0x18, 0x20, 0x28, 0x30, 0x38, 0xCB, 0xD9, 0xDD, 0xED, 0xFD] : List Byte) →
    step s = .next { s with fault := some (.unknownOpcode (s.readByte s.pc) s.pc), out := Output.nothing })

/-- R131: a halted core's step changes nothing and reports HALT_IDLE_CYCLES. -/
def Obligations.HaltedStepOnlyReportsIdleCycles : Prop :=
  ∀ s : State, s.fault = none → s.halt = true →
    step s = .next { s with out := { cycles := some Config.haltIdleCycles, events := [] } }

/-- R341, R130: once FAULT is set execute() and every other call change nothing of the core and answer nothing, however many the
host makes, and the reads of R363 still answer. `out`, the model's own record of the last report, is emptied by an execute()
(log 5, log 7). -/
def Obligations.StoppedCoreMakesNoMove : Prop :=
  ∀ (s : State) (e : ErrorRecord), s.fault = some e →
    step s = .next { s with out := Output.nothing } ∧
    (∀ c : HostCall, c ≠ .execute → hostCall c s = .next s) ∧
    (∀ calls : List HostCall, ∃ t, runCalls calls s = .next t ∧ { t with out := s.out } = s) ∧
    (∀ (b : Bool) (p v : Byte) (bytes : List Byte) (origin : Word) (t : State),
      hostReply .execute s t = .nothing ∧ hostReply (.raise v) s t = .nothing ∧
      hostReply (.setInterruptsEnabled b) s t = .nothing ∧ hostReply (.setInputPort p v) s t = .nothing ∧
      hostReply (.loadImage bytes origin) s t = .nothing) ∧
    (∀ calls : List HostCall, runReplies (calls ++ [.readFault]) s = runReplies calls s ++ [.faultRecord (some e)])

/-! ## Data transfer -/

/-- R160: MOV r1,r2. -/
def Obligations.MovRegisterToRegister : Prop :=
  ∀ (dst src : Reg) (s : State), ∃ t, exec (movInstr (.reg dst) (.reg src)) s = .next t ∧
    t.getReg dst = s.getReg src ∧ KeepsFlags s t ∧ OnlyRegsAndFlags [dst] s t ∧ Advances 1 5 s t ∧
    Encodes (movInstr (.reg dst) (.reg src)) (0x40 + 8 * regCode dst + regCode src) []

/-- R161: MOV r,M, the byte read with the old HL. -/
def Obligations.MovMemoryToRegister : Prop :=
  ∀ (dst : Reg) (s : State), ∃ t, exec (movInstr (.reg dst) .m) s = .next t ∧
    t.getReg dst = s.readByte (pairOf s.regs.h s.regs.l) ∧ KeepsFlags s t ∧ OnlyRegsAndFlags [dst] s t ∧ Advances 1 7 s t ∧
    Encodes (movInstr (.reg dst) .m) (0x46 + 8 * regCode dst) []

/-- R162: MOV M,r, and its stop in ROM. -/
def Obligations.MovRegisterToMemory : Prop :=
  ∀ (src : Reg) (s : State), Memory.wf s.mem = true →
    (0x1FFF < s.hl.toNat → ∃ t, exec (movInstr .m (.reg src)) s = .next t ∧
      t.readByte s.hl = s.getReg src ∧ KeepsFlags s t ∧ OnlyMemAndFlags [s.hl] s t ∧ Advances 1 7 s t) ∧
    (s.hl.toNat ≤ 0x1FFF → exec (movInstr .m (.reg src)) s = .next (stoppedAtWrite s 1 s.hl (s.getReg src))) ∧
    Encodes (movInstr .m (.reg src)) (0x70 + regCode src) []

/-- R163, R164: MVI r,d8 and MVI M,d8, and the stop of the latter in ROM. -/
def Obligations.MviLoadsTheImmediate : Prop :=
  (∀ (dst : Reg) (v : Byte) (s : State), ∃ t, exec (mviInstr (.reg dst) v) s = .next t ∧
    t.getReg dst = v ∧ KeepsFlags s t ∧ OnlyRegsAndFlags [dst] s t ∧ Advances 2 7 s t) ∧
  (∀ (v : Byte) (s : State), Memory.wf s.mem = true →
    (0x1FFF < s.hl.toNat → ∃ t, exec (.mviM v) s = .next t ∧
      t.readByte s.hl = v ∧ KeepsFlags s t ∧ OnlyMemAndFlags [s.hl] s t ∧ Advances 2 10 s t) ∧
    (s.hl.toNat ≤ 0x1FFF → exec (.mviM v) s = .next (stoppedAtWrite s 2 s.hl v))) ∧
  (∀ (dst : Reg) (v : Byte), Encodes (mviInstr (.reg dst) v) (0x06 + 8 * regCode dst) [v]) ∧
  (∀ v : Byte, Encodes (.mviM v) 0x36 [v])

/-- R165: LXI writes both halves of BC, DE or HL, or SP. -/
def Obligations.LxiLoadsThePair : Prop :=
  (∀ (v : Word) (s : State), ∃ t, exec (.lxiB v) s = .next t ∧ t.regs.b = hiByte v ∧ t.regs.c = loByte v ∧
    KeepsFlags s t ∧ OnlyRegsAndFlags [.b, .c] s t ∧ Advances 3 10 s t) ∧
  (∀ (v : Word) (s : State), ∃ t, exec (.lxiD v) s = .next t ∧ t.regs.d = hiByte v ∧ t.regs.e = loByte v ∧
    KeepsFlags s t ∧ OnlyRegsAndFlags [.d, .e] s t ∧ Advances 3 10 s t) ∧
  (∀ (v : Word) (s : State), ∃ t, exec (.lxiH v) s = .next t ∧ t.regs.h = hiByte v ∧ t.regs.l = loByte v ∧
    KeepsFlags s t ∧ OnlyRegsAndFlags [.h, .l] s t ∧ Advances 3 10 s t) ∧
  (∀ (v : Word) (s : State), ∃ t, exec (.lxiSp v) s = .next t ∧ t.sp = v ∧ KeepsRegs [] s t ∧ KeepsFlags s t ∧
    KeepsMem s t ∧ KeepsControl s t ∧ KeepsIo s t ∧ Advances 3 10 s t) ∧
  (∀ (p : Pair) (v : Word), Encodes (lxiInstr p v) (0x01 + 16 * rpCode p) [loByte v, hiByte v])

/-- R166, R170: LDA, LDAX B and LDAX D. -/
def Obligations.LdaAndLdaxLoadA : Prop :=
  ∀ s : State,
    (∀ a : Word, ∃ t, exec (.lda a) s = .next t ∧ t.regs.a = s.readByte a ∧
      KeepsFlags s t ∧ OnlyRegsAndFlags [.a] s t ∧ Advances 3 13 s t) ∧
    (∃ t, exec .ldaxB s = .next t ∧ t.regs.a = s.readByte (pairOf s.regs.b s.regs.c) ∧
      KeepsFlags s t ∧ OnlyRegsAndFlags [.a] s t ∧ Advances 1 7 s t) ∧
    (∃ t, exec .ldaxD s = .next t ∧ t.regs.a = s.readByte (pairOf s.regs.d s.regs.e) ∧
      KeepsFlags s t ∧ OnlyRegsAndFlags [.a] s t ∧ Advances 1 7 s t) ∧
    (∀ a : Word, Encodes (.lda a) 0x3A [loByte a, hiByte a]) ∧ Encodes .ldaxB 0x0A [] ∧ Encodes .ldaxD 0x1A []

/-- R167, R171: STA, STAX B and STAX D, and their stop in ROM. -/
def Obligations.StaAndStaxStoreA : Prop :=
  ∀ s : State, Memory.wf s.mem = true →
    (∀ a : Word, 0x1FFF < a.toNat → ∃ t, exec (.sta a) s = .next t ∧ t.readByte a = s.regs.a ∧
      KeepsFlags s t ∧ OnlyMemAndFlags [a] s t ∧ Advances 3 13 s t) ∧
    (∀ a : Word, a.toNat ≤ 0x1FFF → exec (.sta a) s = .next (stoppedAtWrite s 3 a s.regs.a)) ∧
    (0x1FFF < s.bc.toNat → ∃ t, exec .staxB s = .next t ∧ t.readByte s.bc = s.regs.a ∧
      KeepsFlags s t ∧ OnlyMemAndFlags [s.bc] s t ∧ Advances 1 7 s t) ∧
    (s.bc.toNat ≤ 0x1FFF → exec .staxB s = .next (stoppedAtWrite s 1 s.bc s.regs.a)) ∧
    (0x1FFF < s.de.toNat → ∃ t, exec .staxD s = .next t ∧ t.readByte s.de = s.regs.a ∧
      KeepsFlags s t ∧ OnlyMemAndFlags [s.de] s t ∧ Advances 1 7 s t) ∧
    (s.de.toNat ≤ 0x1FFF → exec .staxD s = .next (stoppedAtWrite s 1 s.de s.regs.a)) ∧
    (∀ a : Word, Encodes (.sta a) 0x32 [loByte a, hiByte a]) ∧ Encodes .staxB 0x02 [] ∧ Encodes .staxD 0x12 []

/-- R168: LHLD reads L at the address and H at the next one, mod 2^16. -/
def Obligations.LhldLoadsHl : Prop :=
  ∀ (a : Word) (s : State), ∃ t, exec (.lhld a) s = .next t ∧ t.regs.l = s.readByte a ∧ t.regs.h = s.readByte (a + 1) ∧
    KeepsFlags s t ∧ OnlyRegsAndFlags [.h, .l] s t ∧ Advances 3 16 s t ∧ Encodes (.lhld a) 0x2A [loByte a, hiByte a]

/-- R169: SHLD stores L, then H; either write may stop it. -/
def Obligations.ShldStoresHl : Prop :=
  ∀ (a : Word) (s : State), Memory.wf s.mem = true →
    (0x1FFF < a.toNat → 0x1FFF < (a + 1).toNat → ∃ t, exec (.shld a) s = .next t ∧
      t.readByte a = s.regs.l ∧ t.readByte (a + 1) = s.regs.h ∧
      KeepsFlags s t ∧ OnlyMemAndFlags [a, a + 1] s t ∧ Advances 3 16 s t) ∧
    (a.toNat ≤ 0x1FFF → exec (.shld a) s = .next (stoppedAtWrite s 3 a s.regs.l)) ∧
    (0x1FFF < a.toNat → (a + 1).toNat ≤ 0x1FFF →
      exec (.shld a) s = .next (stoppedAtSecondWrite s 3 a s.regs.l (a + 1) s.regs.h)) ∧
    Encodes (.shld a) 0x22 [loByte a, hiByte a]

/-- R172: XCHG. -/
def Obligations.XchgExchangesDeAndHl : Prop :=
  ∀ s : State, ∃ t, exec .xchg s = .next t ∧ t.regs.d = s.regs.h ∧ t.regs.e = s.regs.l ∧ t.regs.h = s.regs.d ∧
    t.regs.l = s.regs.e ∧ KeepsFlags s t ∧ OnlyRegsAndFlags [.d, .e, .h, .l] s t ∧ Advances 1 4 s t ∧
    Encodes .xchg 0xEB []

/-! ## Arithmetic and logic -/

/-- R180 to R183: ADD, ADI, ADC, ACI. -/
def Obligations.AddAndAdcAdd : Prop :=
  ∀ s : State,
    (∀ o : Operand, ∃ t, exec (aluInstr .add o) s = .next t ∧ Added (s.src8 o) 0 s t ∧
      OnlyRegsAndFlags [.a] s t ∧ Advances 1 (aluCycles o) s t) ∧
    (∀ v : Byte, ∃ t, exec (.adi v) s = .next t ∧ Added v 0 s t ∧ OnlyRegsAndFlags [.a] s t ∧ Advances 2 7 s t) ∧
    (∀ o : Operand, ∃ t, exec (aluInstr .adc o) s = .next t ∧ Added (s.src8 o) s.flags.cy.toNat s t ∧
      OnlyRegsAndFlags [.a] s t ∧ Advances 1 (aluCycles o) s t) ∧
    (∀ v : Byte, ∃ t, exec (.aci v) s = .next t ∧ Added v s.flags.cy.toNat s t ∧
      OnlyRegsAndFlags [.a] s t ∧ Advances 2 7 s t) ∧
    (∀ o : Operand, Encodes (aluInstr .add o) (0x80 + opCode o) [] ∧ Encodes (aluInstr .adc o) (0x88 + opCode o) []) ∧
    (∀ v : Byte, Encodes (.adi v) 0xC6 [v] ∧ Encodes (.aci v) 0xCE [v])

/-- R184 to R187: SUB, SUI, SBB, SBI. -/
def Obligations.SubAndSbbSubtract : Prop :=
  ∀ s : State,
    (∀ o : Operand, ∃ t, exec (aluInstr .sub o) s = .next t ∧ BorrowFlags (s.src8 o) 0 t.regs.a s t ∧
      OnlyRegsAndFlags [.a] s t ∧ Advances 1 (aluCycles o) s t) ∧
    (∀ v : Byte, ∃ t, exec (.sui v) s = .next t ∧ BorrowFlags v 0 t.regs.a s t ∧
      OnlyRegsAndFlags [.a] s t ∧ Advances 2 7 s t) ∧
    (∀ o : Operand, ∃ t, exec (aluInstr .sbb o) s = .next t ∧ BorrowFlags (s.src8 o) s.flags.cy.toNat t.regs.a s t ∧
      OnlyRegsAndFlags [.a] s t ∧ Advances 1 (aluCycles o) s t) ∧
    (∀ v : Byte, ∃ t, exec (.sbi v) s = .next t ∧ BorrowFlags v s.flags.cy.toNat t.regs.a s t ∧
      OnlyRegsAndFlags [.a] s t ∧ Advances 2 7 s t) ∧
    (∀ o : Operand, Encodes (aluInstr .sub o) (0x90 + opCode o) [] ∧ Encodes (aluInstr .sbb o) (0x98 + opCode o) []) ∧
    (∀ v : Byte, Encodes (.sui v) 0xD6 [v] ∧ Encodes (.sbi v) 0xDE [v])

/-- R194, R195: CMP and CPI set the flags of a subtraction and leave A. -/
def Obligations.CompareSetsOnlyFlags : Prop :=
  ∀ s : State,
    (∀ o : Operand, ∃ t r, exec (aluInstr .cmp o) s = .next t ∧ BorrowFlags (s.src8 o) 0 r s t ∧
      OnlyRegsAndFlags [] s t ∧ Advances 1 (aluCycles o) s t) ∧
    (∀ v : Byte, ∃ t r, exec (.cpi v) s = .next t ∧ BorrowFlags v 0 r s t ∧
      OnlyRegsAndFlags [] s t ∧ Advances 2 7 s t) ∧
    (∀ o : Operand, Encodes (aluInstr .cmp o) (0xB8 + opCode o) []) ∧ (∀ v : Byte, Encodes (.cpi v) 0xFE [v])

/-- R188 to R193: the logical operations, CY and AC cleared. -/
def Obligations.LogicalOperationsClearCyAndAc : Prop :=
  ∀ s : State,
    (∀ o : Operand, ∃ t, exec (aluInstr .ana o) s = .next t ∧ LogicDone (s.regs.a &&& s.src8 o) t ∧
      OnlyRegsAndFlags [.a] s t ∧ Advances 1 (aluCycles o) s t) ∧
    (∀ v : Byte, ∃ t, exec (.ani v) s = .next t ∧ LogicDone (s.regs.a &&& v) t ∧
      OnlyRegsAndFlags [.a] s t ∧ Advances 2 7 s t) ∧
    (∀ o : Operand, ∃ t, exec (aluInstr .xra o) s = .next t ∧ LogicDone (s.regs.a ^^^ s.src8 o) t ∧
      OnlyRegsAndFlags [.a] s t ∧ Advances 1 (aluCycles o) s t) ∧
    (∀ v : Byte, ∃ t, exec (.xri v) s = .next t ∧ LogicDone (s.regs.a ^^^ v) t ∧
      OnlyRegsAndFlags [.a] s t ∧ Advances 2 7 s t) ∧
    (∀ o : Operand, ∃ t, exec (aluInstr .ora o) s = .next t ∧ LogicDone (s.regs.a ||| s.src8 o) t ∧
      OnlyRegsAndFlags [.a] s t ∧ Advances 1 (aluCycles o) s t) ∧
    (∀ v : Byte, ∃ t, exec (.ori v) s = .next t ∧ LogicDone (s.regs.a ||| v) t ∧
      OnlyRegsAndFlags [.a] s t ∧ Advances 2 7 s t) ∧
    (∀ o : Operand, Encodes (aluInstr .ana o) (0xA0 + opCode o) [] ∧ Encodes (aluInstr .xra o) (0xA8 + opCode o) [] ∧
      Encodes (aluInstr .ora o) (0xB0 + opCode o) []) ∧
    (∀ v : Byte, Encodes (.ani v) 0xE6 [v] ∧ Encodes (.xri v) 0xEE [v] ∧ Encodes (.ori v) 0xF6 [v])

/-- R196, R198: INR r and DCR r keep CY. -/
def Obligations.InrAndDcrOfARegister : Prop :=
  ∀ (r : Reg) (s : State),
    (∃ t, exec (inrInstr (.reg r)) s = .next t ∧ (t.getReg r).toNat = ((s.getReg r).toNat + 1) % 256 ∧
      SzpOf (t.getReg r) t.flags ∧ (t.flags.ac = true ↔ (s.getReg r).toNat % 16 = 15) ∧ t.flags.cy = s.flags.cy ∧
      OnlyRegsAndFlags [r] s t ∧ Advances 1 5 s t) ∧
    (∃ t, exec (dcrInstr (.reg r)) s = .next t ∧ (t.getReg r).toNat = ((s.getReg r).toNat + 255) % 256 ∧
      SzpOf (t.getReg r) t.flags ∧ (t.flags.ac = true ↔ (s.getReg r).toNat % 16 ≠ 0) ∧ t.flags.cy = s.flags.cy ∧
      OnlyRegsAndFlags [r] s t ∧ Advances 1 5 s t) ∧
    Encodes (inrInstr (.reg r)) (0x04 + 8 * regCode r) [] ∧ Encodes (dcrInstr (.reg r)) (0x05 + 8 * regCode r) []

/-- R197, R199: INR M and DCR M; in ROM they stop before the flags are written. -/
def Obligations.InrAndDcrOfMemory : Prop :=
  ∀ s : State, Memory.wf s.mem = true →
    (0x1FFF < s.hl.toNat →
      (∃ t, exec .inrM s = .next t ∧ t.readByte s.hl = s.readByte s.hl + 1 ∧ SzpOf (s.readByte s.hl + 1) t.flags ∧
        (t.flags.ac = true ↔ (s.readByte s.hl).toNat % 16 = 15) ∧ t.flags.cy = s.flags.cy ∧
        OnlyMemAndFlags [s.hl] s t ∧ Advances 1 10 s t) ∧
      (∃ t, exec .dcrM s = .next t ∧ t.readByte s.hl = s.readByte s.hl - 1 ∧ SzpOf (s.readByte s.hl - 1) t.flags ∧
        (t.flags.ac = true ↔ (s.readByte s.hl).toNat % 16 ≠ 0) ∧ t.flags.cy = s.flags.cy ∧
        OnlyMemAndFlags [s.hl] s t ∧ Advances 1 10 s t)) ∧
    (s.hl.toNat ≤ 0x1FFF →
      exec .inrM s = .next (stoppedAtWrite s 1 s.hl (s.readByte s.hl + 1)) ∧
      exec .dcrM s = .next (stoppedAtWrite s 1 s.hl (s.readByte s.hl - 1))) ∧
    Encodes .inrM 0x34 [] ∧ Encodes .dcrM 0x35 []

/-- R200, R201: INX and DCX of BC, DE, HL and SP, mod 2^16, no flag written. -/
def Obligations.InxAndDcxCountThePair : Prop :=
  ∀ s : State,
    (∃ t, exec .inxB s = .next t ∧ t.bc = s.bc + 1 ∧ KeepsFlags s t ∧ OnlyRegsAndFlags [.b, .c] s t ∧ Advances 1 5 s t) ∧
    (∃ t, exec .inxD s = .next t ∧ t.de = s.de + 1 ∧ KeepsFlags s t ∧ OnlyRegsAndFlags [.d, .e] s t ∧ Advances 1 5 s t) ∧
    (∃ t, exec .inxH s = .next t ∧ t.hl = s.hl + 1 ∧ KeepsFlags s t ∧ OnlyRegsAndFlags [.h, .l] s t ∧ Advances 1 5 s t) ∧
    (∃ t, exec .inxSp s = .next t ∧ t.sp = s.sp + 1 ∧ KeepsFlags s t ∧ KeepsRegs [] s t ∧ KeepsMem s t ∧
      KeepsControl s t ∧ KeepsIo s t ∧ Advances 1 5 s t) ∧
    (∃ t, exec .dcxB s = .next t ∧ t.bc = s.bc - 1 ∧ KeepsFlags s t ∧ OnlyRegsAndFlags [.b, .c] s t ∧ Advances 1 5 s t) ∧
    (∃ t, exec .dcxD s = .next t ∧ t.de = s.de - 1 ∧ KeepsFlags s t ∧ OnlyRegsAndFlags [.d, .e] s t ∧ Advances 1 5 s t) ∧
    (∃ t, exec .dcxH s = .next t ∧ t.hl = s.hl - 1 ∧ KeepsFlags s t ∧ OnlyRegsAndFlags [.h, .l] s t ∧ Advances 1 5 s t) ∧
    (∃ t, exec .dcxSp s = .next t ∧ t.sp = s.sp - 1 ∧ KeepsFlags s t ∧ KeepsRegs [] s t ∧ KeepsMem s t ∧
      KeepsControl s t ∧ KeepsIo s t ∧ Advances 1 5 s t) ∧
    (∀ p : Pair, Encodes (inxInstr p) (0x03 + 16 * rpCode p) [] ∧ Encodes (dcxInstr p) (0x0B + 16 * rpCode p) [])

/-- R202: DAD writes HL and CY only. -/
def Obligations.DadAddsToHl : Prop :=
  ∀ (p : Pair) (s : State), ∃ t, exec (dadInstr p) s = .next t ∧
    t.hl.toNat = (s.hl.toNat + (s.rp16 p).toNat) % 65536 ∧
    (t.flags.cy = true ↔ 65535 < s.hl.toNat + (s.rp16 p).toNat) ∧ KeepsAllButCy s t ∧
    OnlyRegsAndFlags [.h, .l] s t ∧ Advances 1 10 s t ∧ Encodes (dadInstr p) (0x09 + 16 * rpCode p) []

/-- R148, R203: DAA, two sequential additions in a widened integer. -/
def Obligations.DaaAdjustsInTwoAdditions : Prop :=
  ∀ (s : State) (lo hi : Nat),
    lo = (if 9 < s.regs.a.toNat % 16 ∨ s.flags.ac = true then 0x06 else 0) →
    hi = (if 9 < (s.regs.a.toNat + lo) / 16 ∨ s.flags.cy = true then 0x60 else 0) →
    ∃ t, exec .daa s = .next t ∧ t.regs.a.toNat = (s.regs.a.toNat + lo + hi) % 256 ∧
      (t.flags.cy = true ↔ hi = 0x60) ∧ (t.flags.ac = true ↔ 15 < s.regs.a.toNat % 16 + lo) ∧ SzpOf t.regs.a t.flags ∧
      OnlyRegsAndFlags [.a] s t ∧ Advances 1 4 s t ∧ Encodes .daa 0x27 []

/-- The glossary's DAA: after ADD B of two packed BCD bytes, DAA leaves the packed BCD of the sum, CY its hundreds. -/
def Obligations.DaaAfterAddGivesPackedBcd : Prop :=
  ∀ s : State, isBcd s.regs.a → isBcd s.regs.b → ∃ t u, exec .addB s = .next t ∧ exec .daa t = .next u ∧
    isBcd u.regs.a ∧ bcdValue u.regs.a + 100 * u.flags.cy.toNat = bcdValue s.regs.a + bcdValue s.regs.b

/-! ## Rotates and flags -/

/-- R230 to R233: each bit of the four rotates. -/
def Obligations.RotatesMoveEachBit : Prop :=
  ∀ s : State,
    (∃ t, exec .rlc s = .next t ∧ (∀ k, k < 8 → t.regs.a.getLsbD k = s.regs.a.getLsbD ((k + 7) % 8)) ∧
      t.flags.cy = s.regs.a.getLsbD 7 ∧ KeepsAllButCy s t ∧ OnlyRegsAndFlags [.a] s t ∧ Advances 1 4 s t) ∧
    (∃ t, exec .rrc s = .next t ∧ (∀ k, k < 8 → t.regs.a.getLsbD k = s.regs.a.getLsbD ((k + 1) % 8)) ∧
      t.flags.cy = s.regs.a.getLsbD 0 ∧ KeepsAllButCy s t ∧ OnlyRegsAndFlags [.a] s t ∧ Advances 1 4 s t) ∧
    (∃ t, exec .ral s = .next t ∧ t.regs.a.getLsbD 0 = s.flags.cy ∧
      (∀ k, k < 7 → t.regs.a.getLsbD (k + 1) = s.regs.a.getLsbD k) ∧
      t.flags.cy = s.regs.a.getLsbD 7 ∧ KeepsAllButCy s t ∧ OnlyRegsAndFlags [.a] s t ∧ Advances 1 4 s t) ∧
    (∃ t, exec .rar s = .next t ∧ t.regs.a.getLsbD 7 = s.flags.cy ∧
      (∀ k, k < 7 → t.regs.a.getLsbD k = s.regs.a.getLsbD (k + 1)) ∧
      t.flags.cy = s.regs.a.getLsbD 0 ∧ KeepsAllButCy s t ∧ OnlyRegsAndFlags [.a] s t ∧ Advances 1 4 s t) ∧
    Encodes .rlc 0x07 [] ∧ Encodes .rrc 0x0F [] ∧ Encodes .ral 0x17 [] ∧ Encodes .rar 0x1F []

/-- R234 to R236: CMA, STC, CMC. -/
def Obligations.ComplementAndCarryInstructions : Prop :=
  ∀ s : State,
    (∃ t, exec .cma s = .next t ∧ t.regs.a = s.regs.a ^^^ 0xFF ∧ KeepsFlags s t ∧ OnlyRegsAndFlags [.a] s t ∧
      Advances 1 4 s t) ∧
    (∃ t, exec .stc s = .next t ∧ t.flags.cy = true ∧ KeepsAllButCy s t ∧ OnlyRegsAndFlags [] s t ∧ Advances 1 4 s t) ∧
    (∃ t, exec .cmc s = .next t ∧ t.flags.cy = (!s.flags.cy) ∧ KeepsAllButCy s t ∧ OnlyRegsAndFlags [] s t ∧
      Advances 1 4 s t) ∧
    Encodes .cma 0x2F [] ∧ Encodes .stc 0x37 [] ∧ Encodes .cmc 0x3F []

/-! ## Stack and control transfer -/

/-- R255, R256, R262: JMP, PCHL and both paths of Jcc. -/
def Obligations.JumpsReplacePc : Prop :=
  ∀ s : State,
    (∀ a : Word, ∃ t, exec (.jmp a) s = .next t ∧ JumpsTo a 10 t ∧ KeepsFlags s t ∧ OnlyRegsAndFlags [] s t) ∧
    (∃ t, exec .pchl s = .next t ∧ JumpsTo (pairOf s.regs.h s.regs.l) 5 t ∧ KeepsFlags s t ∧ OnlyRegsAndFlags [] s t) ∧
    (∀ (cc : Cond) (a : Word), ∃ t, exec (jccInstr cc a) s = .next t ∧
      JumpsTo (if s.flags.cond cc then a else s.pc + 3) 10 t ∧ KeepsFlags s t ∧ OnlyRegsAndFlags [] s t) ∧
    (∀ a : Word, Encodes (.jmp a) 0xC3 [loByte a, hiByte a]) ∧ Encodes .pchl 0xE9 [] ∧
    (∀ (cc : Cond) (a : Word), Encodes (jccInstr cc a) (0xC2 + 8 * cccCode cc) [loByte a, hiByte a])

/-- R107, R138: each condition reads one flag. -/
def Obligations.ConditionsReadOneFlag : Prop :=
  ∀ (s : State) (a : Word),
    (∃ t, exec (.jnz a) s = .next t ∧ t.pc = if s.flags.z = false then a else s.pc + 3) ∧
    (∃ t, exec (.jz a) s = .next t ∧ t.pc = if s.flags.z = true then a else s.pc + 3) ∧
    (∃ t, exec (.jnc a) s = .next t ∧ t.pc = if s.flags.cy = false then a else s.pc + 3) ∧
    (∃ t, exec (.jc a) s = .next t ∧ t.pc = if s.flags.cy = true then a else s.pc + 3) ∧
    (∃ t, exec (.jpo a) s = .next t ∧ t.pc = if s.flags.p = false then a else s.pc + 3) ∧
    (∃ t, exec (.jpe a) s = .next t ∧ t.pc = if s.flags.p = true then a else s.pc + 3) ∧
    (∃ t, exec (.jp a) s = .next t ∧ t.pc = if s.flags.s = false then a else s.pc + 3) ∧
    (∃ t, exec (.jm a) s = .next t ∧ t.pc = if s.flags.s = true then a else s.pc + 3)

/-- R257, R261: CALL and RST push next and go to the target; a push into ROM stops them with PC = next. -/
def Obligations.CallAndRstPushNext : Prop :=
  ∀ s : State, Memory.wf s.mem = true →
    (∀ a : Word,
      (StackInRam s → ∃ t, exec (.call a) s = .next t ∧ JumpsTo a 17 t ∧
        Pushed (hiByte (s.pc + 3)) (loByte (s.pc + 3)) s t ∧
        KeepsRegs [] s t ∧ KeepsFlags s t ∧ KeepsControl s t ∧ KeepsIo s t) ∧
      PushStops 3 (hiByte (s.pc + 3)) (loByte (s.pc + 3)) s (exec (.call a) s)) ∧
    (∀ n : Fin 8,
      (StackInRam s → ∃ t, exec (rstInstr n) s = .next t ∧ JumpsTo (BitVec.ofNat 16 (8 * n.val)) 11 t ∧
        Pushed (hiByte (s.pc + 1)) (loByte (s.pc + 1)) s t ∧
        KeepsRegs [] s t ∧ KeepsFlags s t ∧ KeepsControl s t ∧ KeepsIo s t) ∧
      PushStops 1 (hiByte (s.pc + 1)) (loByte (s.pc + 1)) s (exec (rstInstr n) s)) ∧
    (∀ a : Word, Encodes (.call a) 0xCD [loByte a, hiByte a]) ∧ (∀ n : Fin 8, Encodes (rstInstr n) (0xC7 + 8 * n.val) [])

/-- R258, R254: Ccc calls when the condition holds and otherwise only goes to next, not touching the stack. -/
def Obligations.ConditionalCall : Prop :=
  ∀ (cc : Cond) (a : Word) (s : State), Memory.wf s.mem = true →
    (s.flags.cond cc = true → StackInRam s → ∃ t, exec (cccInstr cc a) s = .next t ∧ JumpsTo a 17 t ∧
      Pushed (hiByte (s.pc + 3)) (loByte (s.pc + 3)) s t ∧
      KeepsRegs [] s t ∧ KeepsFlags s t ∧ KeepsControl s t ∧ KeepsIo s t) ∧
    (s.flags.cond cc = true → PushStops 3 (hiByte (s.pc + 3)) (loByte (s.pc + 3)) s (exec (cccInstr cc a) s)) ∧
    (s.flags.cond cc = false → ∃ t, exec (cccInstr cc a) s = .next t ∧ Advances 3 11 s t ∧ KeepsFlags s t ∧
      OnlyRegsAndFlags [] s t) ∧
    Encodes (cccInstr cc a) (0xC4 + 8 * cccCode cc) [loByte a, hiByte a]

/-- R259, R260, R253, R251: RET and Rcc; not taken, Rcc only goes to next. -/
def Obligations.ReturnsPopPc : Prop :=
  ∀ s : State,
    (∃ t, exec .ret s = .next t ∧ JumpsTo (pairOf (s.readByte (s.sp + 1)) (s.readByte s.sp)) 10 t ∧ t.sp = s.sp + 2 ∧
      KeepsRegs [] s t ∧ KeepsFlags s t ∧ KeepsMem s t ∧ KeepsControl s t ∧ KeepsIo s t) ∧
    (∀ cc : Cond,
      (s.flags.cond cc = true → ∃ t, exec (rccInstr cc) s = .next t ∧
        JumpsTo (pairOf (s.readByte (s.sp + 1)) (s.readByte s.sp)) 11 t ∧ t.sp = s.sp + 2 ∧
        KeepsRegs [] s t ∧ KeepsFlags s t ∧ KeepsMem s t ∧ KeepsControl s t ∧ KeepsIo s t) ∧
      (s.flags.cond cc = false → ∃ t, exec (rccInstr cc) s = .next t ∧ Advances 1 5 s t ∧ KeepsFlags s t ∧
        OnlyRegsAndFlags [] s t)) ∧
    Encodes .ret 0xC9 [] ∧ (∀ cc : Cond, Encodes (rccInstr cc) (0xC0 + 8 * cccCode cc) [])

/-- The source's property S3: CALL then RET comes back to the instruction after the CALL, with SP as before. -/
def Obligations.CallThenRetComesBack : Prop :=
  ∀ (a : Word) (s : State), Memory.wf s.mem = true → StackInRam s →
    ∃ t u, exec (.call a) s = .next t ∧ exec .ret t = .next u ∧ u.pc = s.pc + 3 ∧ u.sp = s.sp ∧ u.regs = s.regs ∧
      u.flags = s.flags

/-- R263, R264: PUSH of a pair and of the PSW, and its stop in ROM. -/
def Obligations.PushStoresThePair : Prop :=
  ∀ s : State, Memory.wf s.mem = true →
    (∀ p : StackPair,
      (StackInRam s → ∃ t, exec (pushInstr p) s = .next t ∧
        Pushed (hiByte (s.stackPair p)) (loByte (s.stackPair p)) s t ∧
        KeepsRegs [] s t ∧ KeepsFlags s t ∧ KeepsControl s t ∧ KeepsIo s t ∧ Advances 1 11 s t) ∧
      PushStops 1 (hiByte (s.stackPair p)) (loByte (s.stackPair p)) s (exec (pushInstr p) s)) ∧
    s.stackPair .bc = pairOf s.regs.b s.regs.c ∧ s.stackPair .de = pairOf s.regs.d s.regs.e ∧
    s.stackPair .hl = pairOf s.regs.h s.regs.l ∧ s.stackPair .psw = pairOf s.regs.a (flagsToByte s.flags) ∧
    (∀ p : StackPair, Encodes (pushInstr p) (0xC5 + 16 * ppCode p) [])

/-- R36 to R39: the flag byte, bit by bit, and its conversions both ways; the PSW holds A high and the flag byte low. -/
def Obligations.FlagByteLayout : Prop :=
  (∀ f : Flags,
    (flagsToByte f).getLsbD 7 = f.s ∧ (flagsToByte f).getLsbD 6 = f.z ∧ (flagsToByte f).getLsbD 5 = false ∧
    (flagsToByte f).getLsbD 4 = f.ac ∧ (flagsToByte f).getLsbD 3 = false ∧ (flagsToByte f).getLsbD 2 = f.p ∧
    (flagsToByte f).getLsbD 1 = true ∧ (flagsToByte f).getLsbD 0 = f.cy) ∧
  (∀ v : Byte,
    byteToFlags v = { s := v.getLsbD 7, z := v.getLsbD 6, ac := v.getLsbD 4, p := v.getLsbD 2, cy := v.getLsbD 0 } ∧
    flagsToByte (byteToFlags v) = (v &&& 0xD5) ||| 0x02) ∧
  (∀ f : Flags, byteToFlags (flagsToByte f) = f) ∧
  (∀ s : State, hiByte (s.stackPair .psw) = s.regs.a ∧ loByte (s.stackPair .psw) = flagsToByte s.flags)

/-- R265, R266, R38: POP of a pair, and POP PSW, which takes all five flags from the low byte and drops bits 5, 3 and 1. -/
def Obligations.PopLoadsThePair : Prop :=
  ∀ s : State,
    (∃ t, exec .popB s = .next t ∧ t.regs.b = s.readByte (s.sp + 1) ∧ t.regs.c = s.readByte s.sp ∧ t.sp = s.sp + 2 ∧
      KeepsRegs [.b, .c] s t ∧ KeepsFlags s t ∧ KeepsMem s t ∧ KeepsControl s t ∧ KeepsIo s t ∧ Advances 1 10 s t) ∧
    (∃ t, exec .popD s = .next t ∧ t.regs.d = s.readByte (s.sp + 1) ∧ t.regs.e = s.readByte s.sp ∧ t.sp = s.sp + 2 ∧
      KeepsRegs [.d, .e] s t ∧ KeepsFlags s t ∧ KeepsMem s t ∧ KeepsControl s t ∧ KeepsIo s t ∧ Advances 1 10 s t) ∧
    (∃ t, exec .popH s = .next t ∧ t.regs.h = s.readByte (s.sp + 1) ∧ t.regs.l = s.readByte s.sp ∧ t.sp = s.sp + 2 ∧
      KeepsRegs [.h, .l] s t ∧ KeepsFlags s t ∧ KeepsMem s t ∧ KeepsControl s t ∧ KeepsIo s t ∧ Advances 1 10 s t) ∧
    (∃ t, exec .popPsw s = .next t ∧ t.regs.a = s.readByte (s.sp + 1) ∧
      t.flags.s = (s.readByte s.sp).getLsbD 7 ∧ t.flags.z = (s.readByte s.sp).getLsbD 6 ∧
      t.flags.ac = (s.readByte s.sp).getLsbD 4 ∧ t.flags.p = (s.readByte s.sp).getLsbD 2 ∧
      t.flags.cy = (s.readByte s.sp).getLsbD 0 ∧ t.sp = s.sp + 2 ∧
      KeepsRegs [.a] s t ∧ KeepsMem s t ∧ KeepsControl s t ∧ KeepsIo s t ∧ Advances 1 10 s t) ∧
    (∀ p : StackPair, Encodes (popInstr p) (0xC1 + 16 * ppCode p) [])

/-- The source's property S2: PUSH then POP restores the pair, or A and the flags, and SP. -/
def Obligations.PushThenPopRestores : Prop :=
  ∀ (p : StackPair) (s : State), Memory.wf s.mem = true → StackInRam s →
    ∃ t u, exec (pushInstr p) s = .next t ∧ exec (popInstr p) t = .next u ∧ u.regs = s.regs ∧ u.flags = s.flags ∧
      u.sp = s.sp

/-- R267: XTHL; SP stays, and H and L change only if both writes are done. -/
def Obligations.XthlExchangesWithTheStack : Prop :=
  ∀ s : State, Memory.wf s.mem = true →
    (0x1FFF < s.sp.toNat → 0x1FFF < (s.sp + 1).toNat → ∃ t, exec .xthl s = .next t ∧
      t.regs.l = s.readByte s.sp ∧ t.regs.h = s.readByte (s.sp + 1) ∧
      t.readByte s.sp = s.regs.l ∧ t.readByte (s.sp + 1) = s.regs.h ∧ t.sp = s.sp ∧
      KeepsRegs [.h, .l] s t ∧ KeepsMemBut [s.sp, s.sp + 1] s t ∧
      KeepsFlags s t ∧ KeepsControl s t ∧ KeepsIo s t ∧ Advances 1 18 s t) ∧
    (s.sp.toNat ≤ 0x1FFF → exec .xthl s = .next (stoppedAtWrite s 1 s.sp s.regs.l)) ∧
    (0x1FFF < s.sp.toNat → (s.sp + 1).toNat ≤ 0x1FFF →
      exec .xthl s = .next (stoppedAtSecondWrite s 1 s.sp s.regs.l (s.sp + 1) s.regs.h)) ∧
    Encodes .xthl 0xE3 []

/-- R268: SPHL. -/
def Obligations.SphlCopiesHlToSp : Prop :=
  ∀ s : State, ∃ t, exec .sphl s = .next t ∧ t.sp = pairOf s.regs.h s.regs.l ∧ KeepsRegs [] s t ∧ KeepsFlags s t ∧
    KeepsMem s t ∧ KeepsControl s t ∧ KeepsIo s t ∧ Advances 1 5 s t ∧ Encodes .sphl 0xF9 []

/-! ## Ports -/

/-- R290, R293 to R295: IN 3 reads the window of the shift register, every other port its snapshot. -/
def Obligations.InReadsThePort : Prop :=
  ∀ (p : Byte) (s : State), ∃ t, exec (.inPort p) s = .next t ∧
    (p = 3 → ∀ k, k < 8 → t.regs.a.getLsbD k = s.shift.getLsbD (8 - s.shiftOff.toNat + k)) ∧
    (p ≠ 3 → t.regs.a = s.inSnap.read p.toNat) ∧ KeepsFlags s t ∧ OnlyRegsAndFlags [.a] s t ∧ Advances 2 10 s t ∧
    Encodes (.inPort p) 0xDB [p]

/-- R297, R298: OUT 2 sets the offset, OUT 4 shifts A in at the top. -/
def Obligations.OutDrivesTheShiftRegister : Prop :=
  ∀ s : State,
    (∃ t, exec (.outPort 2) s = .next t ∧ t.shiftOff.toNat = s.regs.a.toNat % 8 ∧ t.shift = s.shift ∧
      t.inSnap = s.inSnap ∧ t.outLatch = s.outLatch ∧
      KeepsRegs [] s t ∧ t.sp = s.sp ∧ KeepsFlags s t ∧ KeepsMem s t ∧ KeepsControl s t ∧ Advances 2 10 s t) ∧
    (∃ t, exec (.outPort 4) s = .next t ∧ hiByte t.shift = s.regs.a ∧ loByte t.shift = hiByte s.shift ∧
      t.shiftOff = s.shiftOff ∧ t.inSnap = s.inSnap ∧ t.outLatch = s.outLatch ∧
      KeepsRegs [] s t ∧ t.sp = s.sp ∧ KeepsFlags s t ∧ KeepsMem s t ∧ KeepsControl s t ∧ Advances 2 10 s t) ∧
    (∀ p : Byte, Encodes (.outPort p) 0xD3 [p])

/-- R300, R302: OUT 3 and OUT 5 emit Sound; every unrecognised port is a latch of its own. -/
def Obligations.OutSoundsAndLatches : Prop :=
  ∀ (p : Byte) (s : State), Ports.wf s.outLatch = true →
    (p = 3 ∨ p = 5 → ∃ t, exec (.outPort p) s = .next t ∧ t.pc = s.pc + 2 ∧
      t.out = { cycles := some 10, events := [.sound p s.regs.a] } ∧
      KeepsFlags s t ∧ OnlyRegsAndFlags [] s t) ∧
    (p ∉ ([2, 3, 4, 5, 6] : List Byte) → ∃ t, exec (.outPort p) s = .next t ∧ Advances 2 10 s t ∧
      t.outLatch.read p.toNat = s.regs.a ∧ (∀ q : Byte, q ≠ p → t.outLatch.read q.toNat = s.outLatch.read q.toNat) ∧
      t.shift = s.shift ∧ t.shiftOff = s.shiftOff ∧ t.inSnap = s.inSnap ∧
      KeepsRegs [] s t ∧ t.sp = s.sp ∧ KeepsFlags s t ∧ KeepsMem s t ∧ KeepsControl s t)

/-- R301, R380, R382: OUT 6 resets the core and keeps memory and all I/O state. Nothing is said of the registers, SP and flags:
they take free values (R381, log 4). -/
def Obligations.OutSixResetsTheCore : Prop :=
  ∀ s : State, ∃ t, exec (.outPort 6) s = .next t ∧ t.pc = 0 ∧ t.ie = false ∧ t.halt = false ∧ t.fault = none ∧
    t.out = { cycles := some 10, events := [.resetRequest] } ∧ KeepsMem s t ∧ KeepsIo s t

/-! ## Machine control and the host -/

/-- R320, R321, R322, R325: NOP, EI, DI and HLT. -/
def Obligations.NopEiDiHlt : Prop :=
  ∀ s : State,
    (∃ t, exec .nop s = .next t ∧ KeepsFlags s t ∧ OnlyRegsAndFlags [] s t ∧ Advances 1 4 s t) ∧
    (∃ t, exec .ei s = .next t ∧ t.ie = true ∧ t.halt = s.halt ∧ t.fault = s.fault ∧ t.draws = s.draws ∧
      KeepsRegs [] s t ∧ t.sp = s.sp ∧ KeepsFlags s t ∧ KeepsMem s t ∧ KeepsIo s t ∧ Advances 1 4 s t) ∧
    (∃ t, exec .di s = .next t ∧ t.ie = false ∧ t.halt = s.halt ∧ t.fault = s.fault ∧ t.draws = s.draws ∧
      KeepsRegs [] s t ∧ t.sp = s.sp ∧ KeepsFlags s t ∧ KeepsMem s t ∧ KeepsIo s t ∧ Advances 1 4 s t) ∧
    (∃ t, exec .hlt s = .next t ∧ t.halt = true ∧ t.ie = s.ie ∧ t.fault = s.fault ∧ t.draws = s.draws ∧
      KeepsRegs [] s t ∧ t.sp = s.sp ∧ KeepsFlags s t ∧ KeepsMem s t ∧ KeepsIo s t ∧ Advances 1 7 s t) ∧
    Encodes .nop 0x00 [] ∧ Encodes .ei 0xFB [] ∧ Encodes .di 0xF3 [] ∧ Encodes .hlt 0x76 []

/-- R351, R353, R360: an accepted interrupt pushes PC, goes to 8 * vector and clears IE and HALT; a push into ROM records the
error and changes no register. -/
def Obligations.AcceptedInterruptVectors : Prop :=
  ∀ (v : Byte) (s : State), s.fault = none → v.toNat ≤ 7 → s.ie = true → Memory.wf s.mem = true →
    (StackInRam s → ∃ t, hostCall (.raise v) s = .next t ∧ t.pc = BitVec.ofNat 16 (8 * v.toNat) ∧ t.ie = false ∧
      t.halt = false ∧ t.fault = none ∧ Pushed (hiByte s.pc) (loByte s.pc) s t ∧
      KeepsRegs [] s t ∧ KeepsFlags s t ∧ KeepsIo s t ∧ t.out = s.out ∧ hostReply (.raise v) s t = .nothing) ∧
    ((s.sp - 1).toNat ≤ 0x1FFF → hostCall (.raise v) s =
      .next { s with fault := some (.writeProtectionViolation (s.sp - 1) (hiByte s.pc) s.pc) }) ∧
    (0x1FFF < (s.sp - 1).toNat → (s.sp - 2).toNat ≤ 0x1FFF → hostCall (.raise v) s =
      .next { s with
        mem := s.mem.write (s.sp - 1).toNat (hiByte s.pc)
        fault := some (.writeProtectionViolation (s.sp - 2) (loByte s.pc) s.pc) })

/-- R352, R354, R355: with IE = 0 a raise changes nothing; a vector above 7 is refused. -/
def Obligations.IgnoredAndRefusedInterrupts : Prop :=
  ∀ (v : Byte) (s : State), s.fault = none →
    (v.toNat ≤ 7 → s.ie = false → hostCall (.raise v) s = .next s) ∧
    (7 < v.toNat → hostCall (.raise v) s = .refused (.vectorOutOfRange v))

/-- R323, R357, R360: there is no shadow after EI: a raise right after it is accepted, and the handler's RET comes back to the
instruction after the EI, with IE still 0. -/
def Obligations.EiThenInterruptThenRet : Prop :=
  ∀ (v : Byte) (s : State), s.fault = none → v.toNat ≤ 7 → Memory.wf s.mem = true → StackInRam s →
    ∃ t u w, exec .ei s = .next t ∧ hostCall (.raise v) t = .next u ∧ u.pc = BitVec.ofNat 16 (8 * v.toNat) ∧
      exec .ret u = .next w ∧ w.pc = s.pc + 1 ∧ w.sp = s.sp ∧ w.ie = false ∧ w.halt = false ∧ w.regs = s.regs ∧
      w.flags = s.flags

/-- R356, R299, R295: the host sets IE alone, and one input snapshot alone, which IN then reads (IN 3 reads the shift register). -/
def Obligations.HostSetsIeAndSnapshots : Prop :=
  ∀ s : State, s.fault = none → Ports.wf s.inSnap = true →
    (∀ b : Bool, hostCall (.setInterruptsEnabled b) s = .next { s with ie := b }) ∧
    (∀ p v : Byte, ∃ t, hostCall (.setInputPort p v) s = .next t ∧
      t.inSnap.read p.toNat = v ∧ (∀ q : Byte, q ≠ p → t.inSnap.read q.toNat = s.inSnap.read q.toNat) ∧
      KeepsRegs [] s t ∧ t.sp = s.sp ∧ t.pc = s.pc ∧ KeepsFlags s t ∧ KeepsMem s t ∧ KeepsControl s t ∧
      t.shift = s.shift ∧ t.shiftOff = s.shiftOff ∧ t.outLatch = s.outLatch ∧
      (p ≠ 3 → ∃ u, exec (.inPort p) t = .next u ∧ u.regs.a = v))

/-- R80, R344: load_image copies the whole image, ROM included, or fails as a whole. -/
def Obligations.LoadImageIsAllOrNothing : Prop :=
  ∀ (bytes : List Byte) (origin : Word) (s : State), s.fault = none → Memory.wf s.mem = true →
    (origin.toNat + bytes.length ≤ 0x2000 → ∃ t, hostCall (.loadImage bytes origin) s = .next t ∧
      (∀ k (h : k < bytes.length), t.mem.read (origin.toNat + k) = bytes[k]) ∧
      (∀ x, (x < origin.toNat ∨ origin.toNat + bytes.length ≤ x) → t.mem.read x = s.mem.read x) ∧
      t.regs = s.regs ∧ t.pc = s.pc ∧ t.sp = s.sp ∧ t.flags = s.flags ∧ KeepsControl s t ∧ KeepsIo s t) ∧
    (0x2000 < origin.toNat + bytes.length → hostCall (.loadImage bytes origin) s =
      .next { s with fault := some (.imageTooLarge origin bytes.length) })

/-! ## The whole machine -/

/-- R380: the power-on state is one the spec allows. Its registers, memory and I/O values are the model's choice (log 1, 2, 3). -/
def Obligations.ResetIsAPowerOnState : Prop := PowerOn State.reset

/-- Every step, and every other host call, keeps the memory and the port arrays canonical. -/
def Obligations.EveryCallKeepsCanonicalForm : Prop :=
  (∀ s t : State, s.wf = true → step s = .next t → t.wf = true) ∧
  (∀ (c : HostCall) (s t : State), s.wf = true → hostCall c s = .next t → t.wf = true)

/-- R73, R86, R393: no step changes a byte of ROM, and no host call but load_image does. -/
def Obligations.NoStepChangesRom : Prop :=
  (∀ s t : State, step s = .next t → ∀ x : Word, x.toNat ≤ 0x1FFF → t.readByte x = s.readByte x) ∧
  (∀ (c : HostCall) (s t : State), (∀ bytes origin, c ≠ .loadImage bytes origin) → hostCall c s = .next t →
    ∀ x : Word, x.toNat ≤ 0x1FFF → t.readByte x = s.readByte x)

/-- R363: what each host call but execute() may change (no host call writes a register, a flag, SHIFT, SHIFT_OFF or OUT_LATCH),
and what every call answers: the error it raised, else its own reply. -/
def Obligations.HostCallsKeepToTheirRow : Prop :=
  (∀ (c : HostCall) (s t : State), c ≠ .execute → hostCall c s = .next t →
    t.regs = s.regs ∧ t.flags = s.flags ∧ t.shift = s.shift ∧ t.shiftOff = s.shiftOff ∧ t.outLatch = s.outLatch ∧
    (t.pc ≠ s.pc ∨ t.sp ≠ s.sp ∨ t.halt ≠ s.halt → ∃ v, c = .raise v) ∧
    (t.ie ≠ s.ie → (∃ v, c = .raise v) ∨ ∃ b, c = .setInterruptsEnabled b) ∧
    (t.inSnap ≠ s.inSnap → ∃ p v, c = .setInputPort p v) ∧
    (t.mem ≠ s.mem → (∃ v, c = .raise v) ∨ ∃ bytes origin, c = .loadImage bytes origin) ∧
    (t.fault ≠ s.fault → (∃ v, c = .raise v) ∨ ∃ bytes origin, c = .loadImage bytes origin)) ∧
  (∀ (c : HostCall) (s t : State) (e : ErrorRecord), s.fault = none → hostCall c s = .next t → t.fault = some e →
    hostReply c s t = .raised e) ∧
  (∀ (s t : State), s.fault = none → step s = .next t → t.fault = none →
    hostReply .execute s t = .output t.out ∧ t.out.cycles ≠ none) ∧
  (∀ (v : Byte) (s t : State), s.fault = none → hostCall (.raise v) s = .next t → t.fault = none →
    hostReply (.raise v) s t = .nothing) ∧
  (∀ (b : Bool) (s t : State), s.fault = none → hostCall (.setInterruptsEnabled b) s = .next t →
    hostReply (.setInterruptsEnabled b) s t = .nothing) ∧
  (∀ (p v : Byte) (s t : State), s.fault = none → hostCall (.setInputPort p v) s = .next t →
    hostReply (.setInputPort p v) s t = .nothing) ∧
  (∀ (bytes : List Byte) (origin : Word) (s t : State), s.fault = none → hostCall (.loadImage bytes origin) s = .next t →
    hostReply (.loadImage bytes origin) s t =
      if origin.toNat + bytes.length ≤ 0x2000 then .nothing else .raised (.imageTooLarge origin bytes.length)) ∧
  (∀ (addr : Word) (s t : State), hostCall (.readMemory addr) s = .next t →
    t = s ∧ hostReply (.readMemory addr) s t = .byte (s.readByte addr)) ∧
  (∀ (p : Byte) (s t : State), hostCall (.readLatch p) s = .next t →
    t = s ∧ hostReply (.readLatch p) s t = .byte (s.outLatch.read p.toNat)) ∧
  (∀ s t : State, hostCall .readFault s = .next t → t = s ∧ hostReply .readFault s t = .faultRecord s.fault)

/-- R40, R41, R43, R44, R46, R47: the instructions that may write each piece of control and I/O state. -/
def Obligations.ControlAndIoStateHasFewWriters : Prop :=
  ∀ (i : Instr) (s t : State), exec i s = .next t →
    (t.ie ≠ s.ie → i = .ei ∨ i = .di ∨ i = .outPort 6) ∧
    (t.halt ≠ s.halt → i = .hlt ∨ i = .outPort 6) ∧
    (t.shift ≠ s.shift → i = .outPort 4) ∧
    (t.shiftOff ≠ s.shiftOff → i = .outPort 2) ∧
    (t.inSnap = s.inSnap) ∧
    (t.outLatch ≠ s.outLatch → ∃ p, i = .outPort p ∧ p ∉ ([2, 3, 4, 5, 6] : List Byte))

/-- R340, R346: an instruction that raises an error is a store into ROM by one of the instructions the table names, or an illegal
byte. -/
def Obligations.OnlyStoresAndIllegalBytesRaise : Prop :=
  ∀ (i : Instr) (s t : State) (e : ErrorRecord), s.fault = none → exec i s = .next t → t.fault = some e →
    (i.isIllegal = true ∧ e = .unknownOpcode i.opcode s.pc) ∨
    (∃ a v, e = .writeProtectionViolation a v s.pc ∧ a.toNat ≤ 0x1FFF ∧
      ((∃ r, i = movInstr .m (.reg r)) ∨ (∃ w, i = .mviM w) ∨ (∃ w, i = .sta w) ∨ (∃ w, i = .shld w) ∨
        (∃ p, i = staxInstr p) ∨ i = .inrM ∨ i = .dcrM ∨ (∃ w, i = .call w) ∨ (∃ cc w, i = cccInstr cc w) ∨
        (∃ n, i = rstInstr n) ∨ (∃ p, i = pushInstr p) ∨ i = .xthl))

/-- R130, R131, R341, R346: execute() always answers a next state, whatever bytes it fetches; and so does every host call but a
raise that R352 refuses. -/
def Obligations.EveryCallAnswers : Prop :=
  (∀ s : State, ∃ t, step s = .next t) ∧
  (∀ (c : HostCall) (s : State), (∀ v, c = .raise v → v.toNat ≤ 7) → ∃ t, hostCall c s = .next t)

/-- R50, R397: what the last execute() reported has no influence on a step. -/
def Obligations.ReportsHaveNoInfluence : Prop :=
  ∀ (s : State) (o : Output), step { s with out := o } = step s

/-- R133, R395, R396: a completed step reports the count of its row of the table: the not-taken count where a condition is false. -/
def Obligations.ReportedCyclesAreTheTables : Prop :=
  (∀ (i : Instr) (s t : State), s.fault = none → exec i s = .next t → t.fault = none → cyclesNotTakenOf i = none →
    t.out.cycles = cyclesOf i ∧ t.out.cycles ≠ none) ∧
  (∀ (cc : Cond) (a : Word) (i : Instr) (s t : State), i = jccInstr cc a ∨ i = cccInstr cc a ∨ i = rccInstr cc →
    s.fault = none → exec i s = .next t → t.fault = none → t.out.cycles ≠ none ∧
      t.out.cycles = if s.flags.cond cc then cyclesOf i else cyclesNotTakenOf i)
end

