-- ==== Sys2Proof/Laws/State.lean ====
section
/-! SUPPORT. One lemma per field per update of the state, and what registers and pairs read after a write. -/

namespace Sys2Proof.Machine

/-! ## setReg -/

@[simp] theorem State.setReg_regs (s : State) (r : Reg) (v : Byte) : (s.setReg r v).regs = s.regs.set r v := rfl
@[simp] theorem State.setReg_sp (s : State) (r : Reg) (v : Byte) : (s.setReg r v).sp = s.sp := rfl
@[simp] theorem State.setReg_pc (s : State) (r : Reg) (v : Byte) : (s.setReg r v).pc = s.pc := rfl
@[simp] theorem State.setReg_flags (s : State) (r : Reg) (v : Byte) : (s.setReg r v).flags = s.flags := rfl
@[simp] theorem State.setReg_ie (s : State) (r : Reg) (v : Byte) : (s.setReg r v).ie = s.ie := rfl
@[simp] theorem State.setReg_halt (s : State) (r : Reg) (v : Byte) : (s.setReg r v).halt = s.halt := rfl
@[simp] theorem State.setReg_shift (s : State) (r : Reg) (v : Byte) : (s.setReg r v).shift = s.shift := rfl
@[simp] theorem State.setReg_shiftOff (s : State) (r : Reg) (v : Byte) : (s.setReg r v).shiftOff = s.shiftOff := rfl
@[simp] theorem State.setReg_inSnap (s : State) (r : Reg) (v : Byte) : (s.setReg r v).inSnap = s.inSnap := rfl
@[simp] theorem State.setReg_outLatch (s : State) (r : Reg) (v : Byte) : (s.setReg r v).outLatch = s.outLatch := rfl
@[simp] theorem State.setReg_mem (s : State) (r : Reg) (v : Byte) : (s.setReg r v).mem = s.mem := rfl
@[simp] theorem State.setReg_fault (s : State) (r : Reg) (v : Byte) : (s.setReg r v).fault = s.fault := rfl
@[simp] theorem State.setReg_draws (s : State) (r : Reg) (v : Byte) : (s.setReg r v).draws = s.draws := rfl
@[simp] theorem State.setReg_out (s : State) (r : Reg) (v : Byte) : (s.setReg r v).out = s.out := rfl

/-! ## setSp -/

@[simp] theorem State.setSp_regs (s : State) (v : Word) : (s.setSp v).regs = s.regs := rfl
@[simp] theorem State.setSp_sp (s : State) (v : Word) : (s.setSp v).sp = v := rfl
@[simp] theorem State.setSp_pc (s : State) (v : Word) : (s.setSp v).pc = s.pc := rfl
@[simp] theorem State.setSp_flags (s : State) (v : Word) : (s.setSp v).flags = s.flags := rfl
@[simp] theorem State.setSp_ie (s : State) (v : Word) : (s.setSp v).ie = s.ie := rfl
@[simp] theorem State.setSp_halt (s : State) (v : Word) : (s.setSp v).halt = s.halt := rfl
@[simp] theorem State.setSp_shift (s : State) (v : Word) : (s.setSp v).shift = s.shift := rfl
@[simp] theorem State.setSp_shiftOff (s : State) (v : Word) : (s.setSp v).shiftOff = s.shiftOff := rfl
@[simp] theorem State.setSp_inSnap (s : State) (v : Word) : (s.setSp v).inSnap = s.inSnap := rfl
@[simp] theorem State.setSp_outLatch (s : State) (v : Word) : (s.setSp v).outLatch = s.outLatch := rfl
@[simp] theorem State.setSp_mem (s : State) (v : Word) : (s.setSp v).mem = s.mem := rfl
@[simp] theorem State.setSp_fault (s : State) (v : Word) : (s.setSp v).fault = s.fault := rfl
@[simp] theorem State.setSp_draws (s : State) (v : Word) : (s.setSp v).draws = s.draws := rfl
@[simp] theorem State.setSp_out (s : State) (v : Word) : (s.setSp v).out = s.out := rfl

/-! ## setPc -/

@[simp] theorem State.setPc_regs (s : State) (v : Word) : (s.setPc v).regs = s.regs := rfl
@[simp] theorem State.setPc_sp (s : State) (v : Word) : (s.setPc v).sp = s.sp := rfl
@[simp] theorem State.setPc_pc (s : State) (v : Word) : (s.setPc v).pc = v := rfl
@[simp] theorem State.setPc_flags (s : State) (v : Word) : (s.setPc v).flags = s.flags := rfl
@[simp] theorem State.setPc_ie (s : State) (v : Word) : (s.setPc v).ie = s.ie := rfl
@[simp] theorem State.setPc_halt (s : State) (v : Word) : (s.setPc v).halt = s.halt := rfl
@[simp] theorem State.setPc_shift (s : State) (v : Word) : (s.setPc v).shift = s.shift := rfl
@[simp] theorem State.setPc_shiftOff (s : State) (v : Word) : (s.setPc v).shiftOff = s.shiftOff := rfl
@[simp] theorem State.setPc_inSnap (s : State) (v : Word) : (s.setPc v).inSnap = s.inSnap := rfl
@[simp] theorem State.setPc_outLatch (s : State) (v : Word) : (s.setPc v).outLatch = s.outLatch := rfl
@[simp] theorem State.setPc_mem (s : State) (v : Word) : (s.setPc v).mem = s.mem := rfl
@[simp] theorem State.setPc_fault (s : State) (v : Word) : (s.setPc v).fault = s.fault := rfl
@[simp] theorem State.setPc_draws (s : State) (v : Word) : (s.setPc v).draws = s.draws := rfl
@[simp] theorem State.setPc_out (s : State) (v : Word) : (s.setPc v).out = s.out := rfl

/-! ## setFlags -/

@[simp] theorem State.setFlags_regs (s : State) (f : Flags) : (s.setFlags f).regs = s.regs := rfl
@[simp] theorem State.setFlags_sp (s : State) (f : Flags) : (s.setFlags f).sp = s.sp := rfl
@[simp] theorem State.setFlags_pc (s : State) (f : Flags) : (s.setFlags f).pc = s.pc := rfl
@[simp] theorem State.setFlags_flags (s : State) (f : Flags) : (s.setFlags f).flags = f := rfl
@[simp] theorem State.setFlags_ie (s : State) (f : Flags) : (s.setFlags f).ie = s.ie := rfl
@[simp] theorem State.setFlags_halt (s : State) (f : Flags) : (s.setFlags f).halt = s.halt := rfl
@[simp] theorem State.setFlags_shift (s : State) (f : Flags) : (s.setFlags f).shift = s.shift := rfl
@[simp] theorem State.setFlags_shiftOff (s : State) (f : Flags) : (s.setFlags f).shiftOff = s.shiftOff := rfl
@[simp] theorem State.setFlags_inSnap (s : State) (f : Flags) : (s.setFlags f).inSnap = s.inSnap := rfl
@[simp] theorem State.setFlags_outLatch (s : State) (f : Flags) : (s.setFlags f).outLatch = s.outLatch := rfl
@[simp] theorem State.setFlags_mem (s : State) (f : Flags) : (s.setFlags f).mem = s.mem := rfl
@[simp] theorem State.setFlags_fault (s : State) (f : Flags) : (s.setFlags f).fault = s.fault := rfl
@[simp] theorem State.setFlags_draws (s : State) (f : Flags) : (s.setFlags f).draws = s.draws := rfl
@[simp] theorem State.setFlags_out (s : State) (f : Flags) : (s.setFlags f).out = s.out := rfl

/-! ## setCy -/

@[simp] theorem State.setCy_regs (s : State) (v : Bool) : (s.setCy v).regs = s.regs := rfl
@[simp] theorem State.setCy_sp (s : State) (v : Bool) : (s.setCy v).sp = s.sp := rfl
@[simp] theorem State.setCy_pc (s : State) (v : Bool) : (s.setCy v).pc = s.pc := rfl
@[simp] theorem State.setCy_flags (s : State) (v : Bool) : (s.setCy v).flags = { s.flags with cy := v } := rfl
@[simp] theorem State.setCy_ie (s : State) (v : Bool) : (s.setCy v).ie = s.ie := rfl
@[simp] theorem State.setCy_halt (s : State) (v : Bool) : (s.setCy v).halt = s.halt := rfl
@[simp] theorem State.setCy_shift (s : State) (v : Bool) : (s.setCy v).shift = s.shift := rfl
@[simp] theorem State.setCy_shiftOff (s : State) (v : Bool) : (s.setCy v).shiftOff = s.shiftOff := rfl
@[simp] theorem State.setCy_inSnap (s : State) (v : Bool) : (s.setCy v).inSnap = s.inSnap := rfl
@[simp] theorem State.setCy_outLatch (s : State) (v : Bool) : (s.setCy v).outLatch = s.outLatch := rfl
@[simp] theorem State.setCy_mem (s : State) (v : Bool) : (s.setCy v).mem = s.mem := rfl
@[simp] theorem State.setCy_fault (s : State) (v : Bool) : (s.setCy v).fault = s.fault := rfl
@[simp] theorem State.setCy_draws (s : State) (v : Bool) : (s.setCy v).draws = s.draws := rfl
@[simp] theorem State.setCy_out (s : State) (v : Bool) : (s.setCy v).out = s.out := rfl

/-! ## setIe -/

@[simp] theorem State.setIe_regs (s : State) (v : Bool) : (s.setIe v).regs = s.regs := rfl
@[simp] theorem State.setIe_sp (s : State) (v : Bool) : (s.setIe v).sp = s.sp := rfl
@[simp] theorem State.setIe_pc (s : State) (v : Bool) : (s.setIe v).pc = s.pc := rfl
@[simp] theorem State.setIe_flags (s : State) (v : Bool) : (s.setIe v).flags = s.flags := rfl
@[simp] theorem State.setIe_ie (s : State) (v : Bool) : (s.setIe v).ie = v := rfl
@[simp] theorem State.setIe_halt (s : State) (v : Bool) : (s.setIe v).halt = s.halt := rfl
@[simp] theorem State.setIe_shift (s : State) (v : Bool) : (s.setIe v).shift = s.shift := rfl
@[simp] theorem State.setIe_shiftOff (s : State) (v : Bool) : (s.setIe v).shiftOff = s.shiftOff := rfl
@[simp] theorem State.setIe_inSnap (s : State) (v : Bool) : (s.setIe v).inSnap = s.inSnap := rfl
@[simp] theorem State.setIe_outLatch (s : State) (v : Bool) : (s.setIe v).outLatch = s.outLatch := rfl
@[simp] theorem State.setIe_mem (s : State) (v : Bool) : (s.setIe v).mem = s.mem := rfl
@[simp] theorem State.setIe_fault (s : State) (v : Bool) : (s.setIe v).fault = s.fault := rfl
@[simp] theorem State.setIe_draws (s : State) (v : Bool) : (s.setIe v).draws = s.draws := rfl
@[simp] theorem State.setIe_out (s : State) (v : Bool) : (s.setIe v).out = s.out := rfl

/-! ## setHalt -/

@[simp] theorem State.setHalt_regs (s : State) (v : Bool) : (s.setHalt v).regs = s.regs := rfl
@[simp] theorem State.setHalt_sp (s : State) (v : Bool) : (s.setHalt v).sp = s.sp := rfl
@[simp] theorem State.setHalt_pc (s : State) (v : Bool) : (s.setHalt v).pc = s.pc := rfl
@[simp] theorem State.setHalt_flags (s : State) (v : Bool) : (s.setHalt v).flags = s.flags := rfl
@[simp] theorem State.setHalt_ie (s : State) (v : Bool) : (s.setHalt v).ie = s.ie := rfl
@[simp] theorem State.setHalt_halt (s : State) (v : Bool) : (s.setHalt v).halt = v := rfl
@[simp] theorem State.setHalt_shift (s : State) (v : Bool) : (s.setHalt v).shift = s.shift := rfl
@[simp] theorem State.setHalt_shiftOff (s : State) (v : Bool) : (s.setHalt v).shiftOff = s.shiftOff := rfl
@[simp] theorem State.setHalt_inSnap (s : State) (v : Bool) : (s.setHalt v).inSnap = s.inSnap := rfl
@[simp] theorem State.setHalt_outLatch (s : State) (v : Bool) : (s.setHalt v).outLatch = s.outLatch := rfl
@[simp] theorem State.setHalt_mem (s : State) (v : Bool) : (s.setHalt v).mem = s.mem := rfl
@[simp] theorem State.setHalt_fault (s : State) (v : Bool) : (s.setHalt v).fault = s.fault := rfl
@[simp] theorem State.setHalt_draws (s : State) (v : Bool) : (s.setHalt v).draws = s.draws := rfl
@[simp] theorem State.setHalt_out (s : State) (v : Bool) : (s.setHalt v).out = s.out := rfl

/-! ## emit -/

@[simp] theorem State.emit_regs (s : State) (ev : Event) : (s.emit ev).regs = s.regs := rfl
@[simp] theorem State.emit_sp (s : State) (ev : Event) : (s.emit ev).sp = s.sp := rfl
@[simp] theorem State.emit_pc (s : State) (ev : Event) : (s.emit ev).pc = s.pc := rfl
@[simp] theorem State.emit_flags (s : State) (ev : Event) : (s.emit ev).flags = s.flags := rfl
@[simp] theorem State.emit_ie (s : State) (ev : Event) : (s.emit ev).ie = s.ie := rfl
@[simp] theorem State.emit_halt (s : State) (ev : Event) : (s.emit ev).halt = s.halt := rfl
@[simp] theorem State.emit_shift (s : State) (ev : Event) : (s.emit ev).shift = s.shift := rfl
@[simp] theorem State.emit_shiftOff (s : State) (ev : Event) : (s.emit ev).shiftOff = s.shiftOff := rfl
@[simp] theorem State.emit_inSnap (s : State) (ev : Event) : (s.emit ev).inSnap = s.inSnap := rfl
@[simp] theorem State.emit_outLatch (s : State) (ev : Event) : (s.emit ev).outLatch = s.outLatch := rfl
@[simp] theorem State.emit_mem (s : State) (ev : Event) : (s.emit ev).mem = s.mem := rfl
@[simp] theorem State.emit_fault (s : State) (ev : Event) : (s.emit ev).fault = s.fault := rfl
@[simp] theorem State.emit_draws (s : State) (ev : Event) : (s.emit ev).draws = s.draws := rfl
@[simp] theorem State.emit_out (s : State) (ev : Event) : (s.emit ev).out = { s.out with events := s.out.events ++ [ev] } := rfl

/-! ## poke -/

@[simp] theorem State.poke_regs (s : State) (a : Word) (v : Byte) : (s.poke a v).regs = s.regs := rfl
@[simp] theorem State.poke_sp (s : State) (a : Word) (v : Byte) : (s.poke a v).sp = s.sp := rfl
@[simp] theorem State.poke_pc (s : State) (a : Word) (v : Byte) : (s.poke a v).pc = s.pc := rfl
@[simp] theorem State.poke_flags (s : State) (a : Word) (v : Byte) : (s.poke a v).flags = s.flags := rfl
@[simp] theorem State.poke_ie (s : State) (a : Word) (v : Byte) : (s.poke a v).ie = s.ie := rfl
@[simp] theorem State.poke_halt (s : State) (a : Word) (v : Byte) : (s.poke a v).halt = s.halt := rfl
@[simp] theorem State.poke_shift (s : State) (a : Word) (v : Byte) : (s.poke a v).shift = s.shift := rfl
@[simp] theorem State.poke_shiftOff (s : State) (a : Word) (v : Byte) : (s.poke a v).shiftOff = s.shiftOff := rfl
@[simp] theorem State.poke_inSnap (s : State) (a : Word) (v : Byte) : (s.poke a v).inSnap = s.inSnap := rfl
@[simp] theorem State.poke_outLatch (s : State) (a : Word) (v : Byte) : (s.poke a v).outLatch = s.outLatch := rfl
@[simp] theorem State.poke_mem (s : State) (a : Word) (v : Byte) : (s.poke a v).mem = s.mem.write a.toNat v := rfl
@[simp] theorem State.poke_fault (s : State) (a : Word) (v : Byte) : (s.poke a v).fault = s.fault := rfl
@[simp] theorem State.poke_draws (s : State) (a : Word) (v : Byte) : (s.poke a v).draws = s.draws := rfl
@[simp] theorem State.poke_out (s : State) (a : Word) (v : Byte) : (s.poke a v).out = s.out := rfl

/-! ## raiseError -/

@[simp] theorem State.raiseError_regs (s : State) (e : ErrorRecord) : (s.raiseError e).regs = s.regs := rfl
@[simp] theorem State.raiseError_sp (s : State) (e : ErrorRecord) : (s.raiseError e).sp = s.sp := rfl
@[simp] theorem State.raiseError_pc (s : State) (e : ErrorRecord) : (s.raiseError e).pc = s.pc := rfl
@[simp] theorem State.raiseError_flags (s : State) (e : ErrorRecord) : (s.raiseError e).flags = s.flags := rfl
@[simp] theorem State.raiseError_ie (s : State) (e : ErrorRecord) : (s.raiseError e).ie = s.ie := rfl
@[simp] theorem State.raiseError_halt (s : State) (e : ErrorRecord) : (s.raiseError e).halt = s.halt := rfl
@[simp] theorem State.raiseError_shift (s : State) (e : ErrorRecord) : (s.raiseError e).shift = s.shift := rfl
@[simp] theorem State.raiseError_shiftOff (s : State) (e : ErrorRecord) : (s.raiseError e).shiftOff = s.shiftOff := rfl
@[simp] theorem State.raiseError_inSnap (s : State) (e : ErrorRecord) : (s.raiseError e).inSnap = s.inSnap := rfl
@[simp] theorem State.raiseError_outLatch (s : State) (e : ErrorRecord) : (s.raiseError e).outLatch = s.outLatch := rfl
@[simp] theorem State.raiseError_mem (s : State) (e : ErrorRecord) : (s.raiseError e).mem = s.mem := rfl
@[simp] theorem State.raiseError_fault (s : State) (e : ErrorRecord) : (s.raiseError e).fault = some e := rfl
@[simp] theorem State.raiseError_draws (s : State) (e : ErrorRecord) : (s.raiseError e).draws = s.draws := rfl
@[simp] theorem State.raiseError_out (s : State) (e : ErrorRecord) : (s.raiseError e).out = s.out := rfl

/-! ## enter -/

@[simp] theorem State.enter_regs (s : State) (len : Nat) : (s.enter len).regs = s.regs := rfl
@[simp] theorem State.enter_sp (s : State) (len : Nat) : (s.enter len).sp = s.sp := rfl
@[simp] theorem State.enter_pc (s : State) (len : Nat) : (s.enter len).pc = s.pc + BitVec.ofNat 16 len := rfl
@[simp] theorem State.enter_flags (s : State) (len : Nat) : (s.enter len).flags = s.flags := rfl
@[simp] theorem State.enter_ie (s : State) (len : Nat) : (s.enter len).ie = s.ie := rfl
@[simp] theorem State.enter_halt (s : State) (len : Nat) : (s.enter len).halt = s.halt := rfl
@[simp] theorem State.enter_shift (s : State) (len : Nat) : (s.enter len).shift = s.shift := rfl
@[simp] theorem State.enter_shiftOff (s : State) (len : Nat) : (s.enter len).shiftOff = s.shiftOff := rfl
@[simp] theorem State.enter_inSnap (s : State) (len : Nat) : (s.enter len).inSnap = s.inSnap := rfl
@[simp] theorem State.enter_outLatch (s : State) (len : Nat) : (s.enter len).outLatch = s.outLatch := rfl
@[simp] theorem State.enter_mem (s : State) (len : Nat) : (s.enter len).mem = s.mem := rfl
@[simp] theorem State.enter_fault (s : State) (len : Nat) : (s.enter len).fault = s.fault := rfl
@[simp] theorem State.enter_draws (s : State) (len : Nat) : (s.enter len).draws = s.draws := rfl
@[simp] theorem State.enter_out (s : State) (len : Nat) : (s.enter len).out = Output.nothing := rfl

/-! ## resetCore -/

@[simp] theorem State.resetCore_regs (s : State) : (s.resetCore).regs = drawnRegs s.draws := rfl
@[simp] theorem State.resetCore_sp (s : State) : (s.resetCore).sp = Config.resetWord s.draws := rfl
@[simp] theorem State.resetCore_pc (s : State) : (s.resetCore).pc = 0 := rfl
@[simp] theorem State.resetCore_flags (s : State) : (s.resetCore).flags = drawnFlags s.draws := rfl
@[simp] theorem State.resetCore_ie (s : State) : (s.resetCore).ie = false := rfl
@[simp] theorem State.resetCore_halt (s : State) : (s.resetCore).halt = false := rfl
@[simp] theorem State.resetCore_shift (s : State) : (s.resetCore).shift = s.shift := rfl
@[simp] theorem State.resetCore_shiftOff (s : State) : (s.resetCore).shiftOff = s.shiftOff := rfl
@[simp] theorem State.resetCore_inSnap (s : State) : (s.resetCore).inSnap = s.inSnap := rfl
@[simp] theorem State.resetCore_outLatch (s : State) : (s.resetCore).outLatch = s.outLatch := rfl
@[simp] theorem State.resetCore_mem (s : State) : (s.resetCore).mem = s.mem := rfl
@[simp] theorem State.resetCore_fault (s : State) : (s.resetCore).fault = none := rfl
@[simp] theorem State.resetCore_draws (s : State) : (s.resetCore).draws = s.draws + 1 := rfl
@[simp] theorem State.resetCore_out (s : State) : (s.resetCore).out = s.out := rfl

/-! ## popped -/

@[simp] theorem State.popped_regs (s : State) : (s.popped).regs = s.regs := rfl
@[simp] theorem State.popped_sp (s : State) : (s.popped).sp = s.sp + 2 := rfl
@[simp] theorem State.popped_pc (s : State) : (s.popped).pc = s.pc := rfl
@[simp] theorem State.popped_flags (s : State) : (s.popped).flags = s.flags := rfl
@[simp] theorem State.popped_ie (s : State) : (s.popped).ie = s.ie := rfl
@[simp] theorem State.popped_halt (s : State) : (s.popped).halt = s.halt := rfl
@[simp] theorem State.popped_shift (s : State) : (s.popped).shift = s.shift := rfl
@[simp] theorem State.popped_shiftOff (s : State) : (s.popped).shiftOff = s.shiftOff := rfl
@[simp] theorem State.popped_inSnap (s : State) : (s.popped).inSnap = s.inSnap := rfl
@[simp] theorem State.popped_outLatch (s : State) : (s.popped).outLatch = s.outLatch := rfl
@[simp] theorem State.popped_mem (s : State) : (s.popped).mem = s.mem := rfl
@[simp] theorem State.popped_fault (s : State) : (s.popped).fault = s.fault := rfl
@[simp] theorem State.popped_draws (s : State) : (s.popped).draws = s.draws := rfl
@[simp] theorem State.popped_out (s : State) : (s.popped).out = s.out := rfl

/-! ## returned -/

@[simp] theorem State.returned_regs (s : State) : (s.returned).regs = s.regs := rfl
@[simp] theorem State.returned_sp (s : State) : (s.returned).sp = s.sp + 2 := rfl
@[simp] theorem State.returned_pc (s : State) : (s.returned).pc = s.topWord := rfl
@[simp] theorem State.returned_flags (s : State) : (s.returned).flags = s.flags := rfl
@[simp] theorem State.returned_ie (s : State) : (s.returned).ie = s.ie := rfl
@[simp] theorem State.returned_halt (s : State) : (s.returned).halt = s.halt := rfl
@[simp] theorem State.returned_shift (s : State) : (s.returned).shift = s.shift := rfl
@[simp] theorem State.returned_shiftOff (s : State) : (s.returned).shiftOff = s.shiftOff := rfl
@[simp] theorem State.returned_inSnap (s : State) : (s.returned).inSnap = s.inSnap := rfl
@[simp] theorem State.returned_outLatch (s : State) : (s.returned).outLatch = s.outLatch := rfl
@[simp] theorem State.returned_mem (s : State) : (s.returned).mem = s.mem := rfl
@[simp] theorem State.returned_fault (s : State) : (s.returned).fault = s.fault := rfl
@[simp] theorem State.returned_draws (s : State) : (s.returned).draws = s.draws := rfl
@[simp] theorem State.returned_out (s : State) : (s.returned).out = s.out := rfl

/-! ## writeShiftOff -/

@[simp] theorem State.writeShiftOff_regs (s : State) (v : Byte) : (s.writeShiftOff v).regs = s.regs := rfl
@[simp] theorem State.writeShiftOff_sp (s : State) (v : Byte) : (s.writeShiftOff v).sp = s.sp := rfl
@[simp] theorem State.writeShiftOff_pc (s : State) (v : Byte) : (s.writeShiftOff v).pc = s.pc := rfl
@[simp] theorem State.writeShiftOff_flags (s : State) (v : Byte) : (s.writeShiftOff v).flags = s.flags := rfl
@[simp] theorem State.writeShiftOff_ie (s : State) (v : Byte) : (s.writeShiftOff v).ie = s.ie := rfl
@[simp] theorem State.writeShiftOff_halt (s : State) (v : Byte) : (s.writeShiftOff v).halt = s.halt := rfl
@[simp] theorem State.writeShiftOff_shift (s : State) (v : Byte) : (s.writeShiftOff v).shift = s.shift := rfl
@[simp] theorem State.writeShiftOff_shiftOff (s : State) (v : Byte) : (s.writeShiftOff v).shiftOff = v.setWidth 3 := rfl
@[simp] theorem State.writeShiftOff_inSnap (s : State) (v : Byte) : (s.writeShiftOff v).inSnap = s.inSnap := rfl
@[simp] theorem State.writeShiftOff_outLatch (s : State) (v : Byte) : (s.writeShiftOff v).outLatch = s.outLatch := rfl
@[simp] theorem State.writeShiftOff_mem (s : State) (v : Byte) : (s.writeShiftOff v).mem = s.mem := rfl
@[simp] theorem State.writeShiftOff_fault (s : State) (v : Byte) : (s.writeShiftOff v).fault = s.fault := rfl
@[simp] theorem State.writeShiftOff_draws (s : State) (v : Byte) : (s.writeShiftOff v).draws = s.draws := rfl
@[simp] theorem State.writeShiftOff_out (s : State) (v : Byte) : (s.writeShiftOff v).out = s.out := rfl

/-! ## writeShift -/

@[simp] theorem State.writeShift_regs (s : State) (v : Byte) : (s.writeShift v).regs = s.regs := rfl
@[simp] theorem State.writeShift_sp (s : State) (v : Byte) : (s.writeShift v).sp = s.sp := rfl
@[simp] theorem State.writeShift_pc (s : State) (v : Byte) : (s.writeShift v).pc = s.pc := rfl
@[simp] theorem State.writeShift_flags (s : State) (v : Byte) : (s.writeShift v).flags = s.flags := rfl
@[simp] theorem State.writeShift_ie (s : State) (v : Byte) : (s.writeShift v).ie = s.ie := rfl
@[simp] theorem State.writeShift_halt (s : State) (v : Byte) : (s.writeShift v).halt = s.halt := rfl
@[simp] theorem State.writeShift_shift (s : State) (v : Byte) : (s.writeShift v).shift = v.setWidth 16 <<< 8 ||| s.shift >>> 8 := rfl
@[simp] theorem State.writeShift_shiftOff (s : State) (v : Byte) : (s.writeShift v).shiftOff = s.shiftOff := rfl
@[simp] theorem State.writeShift_inSnap (s : State) (v : Byte) : (s.writeShift v).inSnap = s.inSnap := rfl
@[simp] theorem State.writeShift_outLatch (s : State) (v : Byte) : (s.writeShift v).outLatch = s.outLatch := rfl
@[simp] theorem State.writeShift_mem (s : State) (v : Byte) : (s.writeShift v).mem = s.mem := rfl
@[simp] theorem State.writeShift_fault (s : State) (v : Byte) : (s.writeShift v).fault = s.fault := rfl
@[simp] theorem State.writeShift_draws (s : State) (v : Byte) : (s.writeShift v).draws = s.draws := rfl
@[simp] theorem State.writeShift_out (s : State) (v : Byte) : (s.writeShift v).out = s.out := rfl

/-! ## writeLatch -/

@[simp] theorem State.writeLatch_regs (s : State) (p v : Byte) : (s.writeLatch p v).regs = s.regs := rfl
@[simp] theorem State.writeLatch_sp (s : State) (p v : Byte) : (s.writeLatch p v).sp = s.sp := rfl
@[simp] theorem State.writeLatch_pc (s : State) (p v : Byte) : (s.writeLatch p v).pc = s.pc := rfl
@[simp] theorem State.writeLatch_flags (s : State) (p v : Byte) : (s.writeLatch p v).flags = s.flags := rfl
@[simp] theorem State.writeLatch_ie (s : State) (p v : Byte) : (s.writeLatch p v).ie = s.ie := rfl
@[simp] theorem State.writeLatch_halt (s : State) (p v : Byte) : (s.writeLatch p v).halt = s.halt := rfl
@[simp] theorem State.writeLatch_shift (s : State) (p v : Byte) : (s.writeLatch p v).shift = s.shift := rfl
@[simp] theorem State.writeLatch_shiftOff (s : State) (p v : Byte) : (s.writeLatch p v).shiftOff = s.shiftOff := rfl
@[simp] theorem State.writeLatch_inSnap (s : State) (p v : Byte) : (s.writeLatch p v).inSnap = s.inSnap := rfl
@[simp] theorem State.writeLatch_outLatch (s : State) (p v : Byte) : (s.writeLatch p v).outLatch = s.outLatch.write p.toNat v := rfl
@[simp] theorem State.writeLatch_mem (s : State) (p v : Byte) : (s.writeLatch p v).mem = s.mem := rfl
@[simp] theorem State.writeLatch_fault (s : State) (p v : Byte) : (s.writeLatch p v).fault = s.fault := rfl
@[simp] theorem State.writeLatch_draws (s : State) (p v : Byte) : (s.writeLatch p v).draws = s.draws := rfl
@[simp] theorem State.writeLatch_out (s : State) (p v : Byte) : (s.writeLatch p v).out = s.out := rfl

/-! ## setRp16 -/

@[simp] theorem State.setRp16_pc (s : State) (p : Pair) (v : Word) : (s.setRp16 p v).pc = s.pc := by cases p <;> rfl
@[simp] theorem State.setRp16_flags (s : State) (p : Pair) (v : Word) : (s.setRp16 p v).flags = s.flags := by cases p <;> rfl
@[simp] theorem State.setRp16_ie (s : State) (p : Pair) (v : Word) : (s.setRp16 p v).ie = s.ie := by cases p <;> rfl
@[simp] theorem State.setRp16_halt (s : State) (p : Pair) (v : Word) : (s.setRp16 p v).halt = s.halt := by cases p <;> rfl
@[simp] theorem State.setRp16_shift (s : State) (p : Pair) (v : Word) : (s.setRp16 p v).shift = s.shift := by cases p <;> rfl
@[simp] theorem State.setRp16_shiftOff (s : State) (p : Pair) (v : Word) : (s.setRp16 p v).shiftOff = s.shiftOff := by cases p <;> rfl
@[simp] theorem State.setRp16_inSnap (s : State) (p : Pair) (v : Word) : (s.setRp16 p v).inSnap = s.inSnap := by cases p <;> rfl
@[simp] theorem State.setRp16_outLatch (s : State) (p : Pair) (v : Word) : (s.setRp16 p v).outLatch = s.outLatch := by cases p <;> rfl
@[simp] theorem State.setRp16_mem (s : State) (p : Pair) (v : Word) : (s.setRp16 p v).mem = s.mem := by cases p <;> rfl
@[simp] theorem State.setRp16_fault (s : State) (p : Pair) (v : Word) : (s.setRp16 p v).fault = s.fault := by cases p <;> rfl
@[simp] theorem State.setRp16_draws (s : State) (p : Pair) (v : Word) : (s.setRp16 p v).draws = s.draws := by cases p <;> rfl
@[simp] theorem State.setRp16_out (s : State) (p : Pair) (v : Word) : (s.setRp16 p v).out = s.out := by cases p <;> rfl

/-! ## setStackPair -/

@[simp] theorem State.setStackPair_pc (s : State) (p : StackPair) (v : Word) : (s.setStackPair p v).pc = s.pc := by
  cases p <;> rfl
@[simp] theorem State.setStackPair_ie (s : State) (p : StackPair) (v : Word) : (s.setStackPair p v).ie = s.ie := by
  cases p <;> rfl
@[simp] theorem State.setStackPair_halt (s : State) (p : StackPair) (v : Word) : (s.setStackPair p v).halt = s.halt := by
  cases p <;> rfl
@[simp] theorem State.setStackPair_shift (s : State) (p : StackPair) (v : Word) : (s.setStackPair p v).shift = s.shift := by
  cases p <;> rfl
@[simp] theorem State.setStackPair_shiftOff (s : State) (p : StackPair) (v : Word) : (s.setStackPair p v).shiftOff = s.shiftOff := by
  cases p <;> rfl
@[simp] theorem State.setStackPair_inSnap (s : State) (p : StackPair) (v : Word) : (s.setStackPair p v).inSnap = s.inSnap := by
  cases p <;> rfl
@[simp] theorem State.setStackPair_outLatch (s : State) (p : StackPair) (v : Word) : (s.setStackPair p v).outLatch = s.outLatch := by
  cases p <;> rfl
@[simp] theorem State.setStackPair_mem (s : State) (p : StackPair) (v : Word) : (s.setStackPair p v).mem = s.mem := by
  cases p <;> rfl
@[simp] theorem State.setStackPair_fault (s : State) (p : StackPair) (v : Word) : (s.setStackPair p v).fault = s.fault := by
  cases p <;> rfl
@[simp] theorem State.setStackPair_draws (s : State) (p : StackPair) (v : Word) : (s.setStackPair p v).draws = s.draws := by
  cases p <;> rfl
@[simp] theorem State.setStackPair_out (s : State) (p : StackPair) (v : Word) : (s.setStackPair p v).out = s.out := by
  cases p <;> rfl
@[simp] theorem State.setStackPair_sp (s : State) (p : StackPair) (v : Word) : (s.setStackPair p v).sp = s.sp := by
  cases p <;> rfl

/-! ## Registers -/

theorem Regs.set_get_same (s : State) (r : Reg) (v : Byte) : (s.setReg r v).getReg r = v := by cases r <;> rfl

theorem Regs.set_get_other (s : State) (r q : Reg) (v : Byte) (h : q ≠ r) : (s.setReg r v).getReg q = s.getReg q := by
  cases r <;> cases q <;> first | rfl | exact absurd rfl h

/-- Reading a register reads the register file alone. -/
theorem State.getReg_congr (s t : State) (h : t.regs = s.regs) (r : Reg) : t.getReg r = s.getReg r := by
  cases r <;> simp [State.getReg, h]

/-! ## Pairs and bytes -/

@[simp] theorem hiByte_pairOf (hi lo : Byte) : hiByte (pairOf hi lo) = hi := by
  apply BitVec.eq_of_getLsbD_eq
  intro i hlt
  simp [hiByte, pairOf, hlt, show 8 + i < 16 by omega]

@[simp] theorem loByte_pairOf (hi lo : Byte) : loByte (pairOf hi lo) = lo := by
  apply BitVec.eq_of_getLsbD_eq
  intro i hlt
  simp [loByte, pairOf, hlt, show i < 16 by omega]

@[simp] theorem pairOf_hiByte_loByte (w : Word) : pairOf (hiByte w) (loByte w) = w := by
  apply BitVec.eq_of_getLsbD_eq
  intro i hlt
  by_cases h : i < 8
  · simp [hiByte, loByte, pairOf, h, hlt]
  · simp [hiByte, loByte, pairOf, h, hlt, show i - 8 < 8 by omega, show 8 + (i - 8) = i by omega]

/-- A pair is `hi * 256 + lo` (R7). -/
theorem pairOf_toNat (hi lo : Byte) : (pairOf hi lo).toNat = hi.toNat * 256 + lo.toNat := by
  have h : lo.toNat < 2 ^ 8 := lo.isLt
  have e : (hi.toNat <<< 8) % 65536 = 2 ^ 8 * hi.toNat := by have := hi.isLt; rw [Nat.shiftLeft_eq]; omega
  have f : lo.toNat % 65536 = lo.toNat := by omega
  have g : hi.toNat % 65536 = hi.toNat := by have := hi.isLt; omega
  simp only [pairOf, BitVec.toNat_or, BitVec.toNat_shiftLeft, BitVec.toNat_setWidth, Nat.reducePow, f, g, e]
  rw [← Nat.two_pow_add_eq_or_of_lt h]
  omega

/-- A pair read after it is written gives the value written (R31). -/
theorem State.rp16_setRp16 (s : State) (p : Pair) (v : Word) : (s.setRp16 p v).rp16 p = v := by
  cases p <;> simp [State.setRp16, State.rp16, State.bc, State.de, State.hl, State.setReg, Regs.set, State.setSp]

/-- Reading memory reads the memory alone. -/
theorem State.readByte_congr (s t : State) (h : t.mem = s.mem) (a : Word) : t.readByte a = s.readByte a := by
  simp [State.readByte, h]

/-- Adding two different small steps to a word gives different words. -/
theorem word_sub_one_ne_sub_two (w : Word) : w - 1 ≠ w - 2 := by
  intro h
  have := congrArg (fun x => w - x) h
  simp at this

end Sys2Proof.Machine
end

