-- ==== Sys2Proof/Laws/Codec.lean ====
section
/-! SUPPORT. Small lemmas of the decoder and the encoder. -/

namespace Sys2Proof

/-- The three lengths (R104) and no other. -/
theorem lengthOf_cases (op : Byte) : lengthOf op = 1 ∨ lengthOf op = 2 ∨ lengthOf op = 3 := by
  unfold lengthOf
  split <;> (repeat' split) <;> simp

/-- With all three bytes there, decoding reads the fields and consumes the length. -/
theorem decode_three (op b1 b2 : Byte) (rest : List Byte) :
    decode (op :: b1 :: b2 :: rest) =
      if lengthOf op = 1 then .ok (decodeOp op 0 0, b1 :: b2 :: rest)
      else if lengthOf op = 2 then .ok (decodeOp op b1 0, b2 :: rest)
      else .ok (decodeOp op b1 b2, rest) := by
  obtain h | h | h := lengthOf_cases op <;> simp [decode, h]

end Sys2Proof
end

