-- ==== Sys2Proof/Laws/Memory.lean ====
section
/-! SUPPORT. The laws of bytes by address: a write is read back, leaves every other address alone and keeps the canonical form;
two canonical collections that read alike are equal. -/

namespace Sys2Proof.Machine

theorem Cells.wfFrom_mono {bound : Nat} : ∀ {m : Cells} {lo lo' : Nat}, lo' ≤ lo → Cells.wfFrom bound lo m = true →
    Cells.wfFrom bound lo' m = true
  | [], _, _, _, _ => rfl
  | (k, v) :: rest, lo, lo', hle, h => by
    simp only [Cells.wfFrom, Bool.and_eq_true, decide_eq_true_eq] at h ⊢
    exact ⟨⟨⟨by omega, h.1.1.2⟩, h.1.2⟩, h.2⟩

/-- Below the first listed address nothing is listed. -/
theorem Cells.read_below {bound : Nat} : ∀ {m : Cells} {lo a : Nat}, a < lo → Cells.wfFrom bound lo m = true →
    m.read a = Config.unwritten
  | [], _, _, _, _ => rfl
  | (k, v) :: rest, lo, a, hlt, h => by
    simp only [Cells.wfFrom, Bool.and_eq_true, decide_eq_true_eq] at h
    rw [Cells.read, if_neg (by omega)]
    exact Cells.read_below (by omega) h.2

/-- A write leaves every other address alone, whatever the collection. -/
theorem Cells.read_write_other : ∀ (m : Cells) (a x : Nat) (v : Byte), x ≠ a → (m.write a v).read x = m.read x
  | [], a, x, v, hne => by
    unfold Cells.write; split <;> simp [Cells.read, hne]
  | (k, w) :: rest, a, x, v, hne => by
    have ih := Cells.read_write_other rest a x v hne
    unfold Cells.write
    split
    · split <;> simp [Cells.read, hne]
    · split
      · rename_i _ hk
        subst hk
        split <;> simp [Cells.read, hne]
      · simp [Cells.read, ih]

/-- A canonical collection reads back what is written. -/
theorem Cells.read_write_same {bound : Nat} : ∀ {m : Cells} {lo : Nat} (a : Nat) (v : Byte), Cells.wfFrom bound lo m = true →
    (m.write a v).read a = v
  | [], lo, a, v, _ => by
    unfold Cells.write; split <;> simp_all [Cells.read]
  | (k, w) :: rest, lo, a, v, h => by
    have h' := h
    simp only [Cells.wfFrom, Bool.and_eq_true, decide_eq_true_eq] at h
    unfold Cells.write
    split
    · rename_i hlt
      split
      · rename_i hv
        have hne : ¬ a = k := by omega
        rw [Cells.read, if_neg hne, Cells.read_below (lo := k + 1) (by omega) h.2, hv]
      · simp [Cells.read]
    · split
      · rename_i hk
        subst hk
        split
        · rename_i hv; rw [Cells.read_below (by omega) h.2, hv]
        · simp [Cells.read]
      · rename_i hk; rw [Cells.read, if_neg hk]; exact Cells.read_write_same a v h.2

/-- A write of an address below the bound keeps the canonical form. -/
theorem Cells.wfFrom_write {bound : Nat} : ∀ {m : Cells} {lo a : Nat} (v : Byte), lo ≤ a → a < bound →
    Cells.wfFrom bound lo m = true → Cells.wfFrom bound lo (m.write a v) = true
  | [], lo, a, v, hlo, hb, _ => by
    unfold Cells.write; split <;> simp_all [Cells.wfFrom]
  | (k, w) :: rest, lo, a, v, hlo, hb, h => by
    have h' := h
    simp only [Cells.wfFrom, Bool.and_eq_true, decide_eq_true_eq] at h
    unfold Cells.write
    split
    · split
      · exact h'
      · rename_i hlt hv
        simp only [Cells.wfFrom, Bool.and_eq_true, decide_eq_true_eq]
        exact ⟨⟨⟨hlo, hb⟩, hv⟩, ⟨⟨by omega, h.1.1.2⟩, h.1.2⟩, h.2⟩
    · split
      · rename_i hk
        subst hk
        split
        · exact Cells.wfFrom_mono (by omega) h.2
        · rename_i hv
          simp only [Cells.wfFrom, Bool.and_eq_true, decide_eq_true_eq]
          exact ⟨⟨⟨hlo, hb⟩, hv⟩, h.2⟩
      · simp only [Cells.wfFrom, Bool.and_eq_true, decide_eq_true_eq]
        exact ⟨⟨⟨h.1.1.1, h.1.1.2⟩, h.1.2⟩, Cells.wfFrom_write v (by omega) hb h.2⟩

theorem Cells.wf_write {bound : Nat} {m : Cells} {a : Nat} (v : Byte) (hb : a < bound) (h : Cells.wf bound m = true) :
    Cells.wf bound (m.write a v) = true := Cells.wfFrom_write v (Nat.zero_le a) hb h

/-- Loading bytes that all lie below the bound keeps the canonical form. -/
theorem Cells.wf_load {bound : Nat} : ∀ (bs : List Byte) {m : Cells} {a : Nat}, a + bs.length ≤ bound →
    Cells.wf bound m = true → Cells.wf bound (m.load a bs) = true
  | [], _, _, _, h => h
  | b :: rest, m, a, hb, h => by
    simp only [List.length_cons] at hb
    exact Cells.wf_load rest (by omega) (Cells.wf_write b (by omega) h)

/-- Loading leaves the addresses outside the loaded ones alone. -/
theorem Cells.read_load_outside : ∀ (bs : List Byte) (m : Cells) (a x : Nat), (x < a ∨ a + bs.length ≤ x) →
    (m.load a bs).read x = m.read x
  | [], _, _, _, _ => rfl
  | b :: rest, m, a, x, hx => by
    simp only [List.length_cons] at hx
    rw [Cells.load, Cells.read_load_outside rest _ _ _ (by omega), Cells.read_write_other _ _ _ _ (by omega)]

/-- Two canonical collections that read alike are equal data. -/
theorem Cells.eq_of_reads {bound : Nat} : ∀ {m n : Cells} {lo : Nat}, Cells.wfFrom bound lo m = true →
    Cells.wfFrom bound lo n = true → (∀ a, lo ≤ a → m.read a = n.read a) → m = n
  | [], [], _, _, _, _ => rfl
  | [], (k, w) :: rest, lo, _, hn, h => by
    simp only [Cells.wfFrom, Bool.and_eq_true, decide_eq_true_eq] at hn
    have := h k hn.1.1.1
    simp only [Cells.read, if_true] at this
    exact absurd this.symm hn.1.2
  | (k, w) :: rest, [], lo, hm, _, h => by
    simp only [Cells.wfFrom, Bool.and_eq_true, decide_eq_true_eq] at hm
    have := h k hm.1.1.1
    simp only [Cells.read, if_true] at this
    exact absurd this hm.1.2
  | (k, w) :: rest, (k', w') :: rest', lo, hm, hn, h => by
    simp only [Cells.wfFrom, Bool.and_eq_true, decide_eq_true_eq] at hm hn
    have hkk : k = k' := by
      rcases Nat.lt_trichotomy k k' with hlt | heq | hgt
      · have := h k hm.1.1.1
        rw [Cells.read, if_pos rfl, Cells.read, if_neg (by omega), Cells.read_below (lo := k' + 1) (by omega) hn.2] at this
        exact absurd this hm.1.2
      · exact heq
      · have := h k' hn.1.1.1
        rw [Cells.read, if_neg (by omega), Cells.read_below (lo := k + 1) (by omega) hm.2, Cells.read, if_pos rfl] at this
        exact absurd this.symm hn.1.2
    subst hkk
    have hww : w = w' := by
      have := h k hm.1.1.1
      simpa [Cells.read] using this
    subst hww
    have : rest = rest' := Cells.eq_of_reads hm.2 hn.2 fun a ha => by
      have := h a (by omega)
      rwa [Cells.read, if_neg (by omega), Cells.read, if_neg (by omega)] at this
    rw [this]

/-! ## Memory of a state -/

theorem State.readByte_poke_other (s : State) (a x : Word) (v : Byte) (h : x ≠ a) : (s.poke a v).readByte x = s.readByte x :=
  Cells.read_write_other _ _ _ _ fun e => h (BitVec.eq_of_toNat_eq e)

theorem State.readByte_poke_same (s : State) (a : Word) (v : Byte) (h : Memory.wf s.mem = true) :
    (s.poke a v).readByte a = v := Cells.read_write_same _ _ h

/-- The same two laws, in the form in which a store leaves the memory. -/
theorem State.read_write_other (s : State) (a x : Word) (v : Byte) (h : x ≠ a) :
    (s.mem.write a.toNat v).read x.toNat = s.readByte x := State.readByte_poke_other s a x v h

theorem State.read_write_same (s : State) (a : Word) (v : Byte) (h : Memory.wf s.mem = true) :
    (s.mem.write a.toNat v).read a.toNat = v := State.readByte_poke_same s a v h

theorem State.memWf_poke (s : State) (a : Word) (v : Byte) (h : Memory.wf s.mem = true) :
    Memory.wf (s.poke a v).mem = true := Cells.wf_write v a.isLt h

theorem State.wf_iff (s : State) :
    s.wf = true ↔ Memory.wf s.mem = true ∧ Ports.wf s.inSnap = true ∧ Ports.wf s.outLatch = true := by
  simp [State.wf, and_assoc]

/-- The invariant depends on the three byte collections alone. -/
theorem State.wf_of_eq {s t : State} (hm : t.mem = s.mem) (hi : t.inSnap = s.inSnap) (ho : t.outLatch = s.outLatch)
    (h : s.wf = true) : t.wf = true := by rw [State.wf, hm, hi, ho]; exact h

/-- Two invariant states' memories that read alike at every address are equal data. -/
theorem Memory.eq_of_reads {s t : State} (hs : Memory.wf s.mem = true) (ht : Memory.wf t.mem = true)
    (h : ∀ a : Word, t.readByte a = s.readByte a) : t.mem = s.mem := by
  refine Cells.eq_of_reads ht hs fun a _ => ?_
  by_cases ha : a < 65536
  · have := h (BitVec.ofNat 16 a)
    simpa [State.readByte, Nat.mod_eq_of_lt ha] using this
  · have outside : ∀ {m : Cells} {lo : Nat}, Cells.wfFrom 65536 lo m = true → m.read a = Config.unwritten := by
      intro m
      induction m with
      | nil => intros; rfl
      | cons c rest ih =>
        intro lo hw
        obtain ⟨k, v⟩ := c
        simp only [Cells.wfFrom, Bool.and_eq_true, decide_eq_true_eq] at hw
        rw [Cells.read, if_neg (by omega)]
        exact ih hw.2
    rw [outside ht, outside hs]

end Sys2Proof.Machine
end

