-- ==== Sys2Proof/Laws/Ops.lean ====
section
/-! SUPPORT. For each shared operation, one lemma that says everything it can do. -/

namespace Sys2Proof.Machine

/-! ## Flow -/

@[simp] theorem Flow.andThen_go (s : State) (k : State → Flow) : (Flow.go s).andThen k = k s := rfl
@[simp] theorem Flow.andThen_stop (s : State) (k : State → Flow) : (Flow.stop s).andThen k = .stop s := rfl
@[simp] theorem Flow.finish_go (s : State) (n : Nat) :
    (Flow.go s).finish n = .next { s with out := { s.out with cycles := some n } } := rfl
@[simp] theorem Flow.finish_stop (s : State) (n : Nat) : (Flow.stop s).finish n = .next s := rfl
@[simp] theorem complete_eq (s : State) (n : Nat) : complete n s = .next { s with out := { s.out with cycles := some n } } := rfl

/-- What a finished flow answers: the state it went on to with the count, or the state it stopped in. -/
theorem Flow.finish_next {f : Flow} {n : Nat} {t : State} (h : f.finish n = .next t) :
    (∃ s, f = .go s ∧ t = { s with out := { s.out with cycles := some n } }) ∨ f = .stop t := by
  cases f with
  | go s => left; exact ⟨s, rfl, by simpa using h.symm⟩
  | stop s => right; simpa using h

/-- What a completed step answers: the state it ends in, with the count. -/
theorem complete_next {n : Nat} {s t : State} (h : complete n s = .next t) :
    t = { s with out := { s.out with cycles := some n } } := by simpa using h.symm

/-! ## Writing memory -/

theorem inRom_iff (a : Word) : inRom a = true ↔ a.toNat ≤ 0x1FFF := decide_eq_true_iff

theorem inRom_false_iff (a : Word) : inRom a = false ↔ 0x1FFF < a.toNat :=
  decide_eq_false_iff_not.trans Nat.not_le

theorem memWrite_rom {a : Word} (v : Byte) (pc0 : Word) (s : State) (h : a.toNat ≤ 0x1FFF) :
    memWrite a v pc0 s = .stop { s with fault := some (.writeProtectionViolation a v pc0) } := by
  rw [memWrite, if_pos ((inRom_iff a).2 h)]; rfl

theorem memWrite_ram {a : Word} (v : Byte) (pc0 : Word) (s : State) (h : 0x1FFF < a.toNat) :
    memWrite a v pc0 s = .go { s with mem := s.mem.write a.toNat v } := by
  rw [memWrite, if_neg (by simp [(inRom_false_iff a).2 h])]; rfl

/-- A write stops in ROM and stores elsewhere (R73). -/
theorem memWrite_cases (a : Word) (v : Byte) (pc0 : Word) (s : State) :
    (a.toNat ≤ 0x1FFF ∧ memWrite a v pc0 s = .stop { s with fault := some (.writeProtectionViolation a v pc0) }) ∨
    (0x1FFF < a.toNat ∧ memWrite a v pc0 s = .go { s with mem := s.mem.write a.toNat v }) := by
  by_cases h : a.toNat ≤ 0x1FFF
  · exact .inl ⟨h, memWrite_rom v pc0 s h⟩
  · exact .inr ⟨by omega, memWrite_ram v pc0 s (by omega)⟩

/-- A 16-bit write stops at its first byte, at its second, or stores both (R79, R348). -/
theorem memWrite16_cases (a v pc0 : Word) (s : State) :
    (a.toNat ≤ 0x1FFF ∧
      memWrite16 a v pc0 s = .stop { s with fault := some (.writeProtectionViolation a (loByte v) pc0) }) ∨
    (0x1FFF < a.toNat ∧ (a + 1).toNat ≤ 0x1FFF ∧
      memWrite16 a v pc0 s = .stop { s with
        mem := s.mem.write a.toNat (loByte v), fault := some (.writeProtectionViolation (a + 1) (hiByte v) pc0) }) ∨
    (0x1FFF < a.toNat ∧ 0x1FFF < (a + 1).toNat ∧
      memWrite16 a v pc0 s = .go { s with mem := (s.mem.write a.toNat (loByte v)).write (a + 1).toNat (hiByte v) }) := by
  unfold memWrite16
  obtain ⟨h, e⟩ | ⟨h, e⟩ := memWrite_cases a (loByte v) pc0 s
  · exact .inl ⟨h, by rw [e]; rfl⟩
  · right
    rw [e, Flow.andThen_go]
    obtain ⟨h', e'⟩ | ⟨h', e'⟩ := memWrite_cases (a + 1) (hiByte v) pc0 { s with mem := s.mem.write a.toNat (loByte v) }
    · exact .inl ⟨h, h', e'⟩
    · exact .inr ⟨h, h', e'⟩

/-- A push stops at its high byte, at its low byte, or stores both and moves SP (R250). -/
theorem push16_cases (hi lo : Byte) (pc0 : Word) (s : State) :
    ((s.sp - 1).toNat ≤ 0x1FFF ∧
      push16 hi lo pc0 s = .stop { s with fault := some (.writeProtectionViolation (s.sp - 1) hi pc0) }) ∨
    (0x1FFF < (s.sp - 1).toNat ∧ (s.sp - 2).toNat ≤ 0x1FFF ∧
      push16 hi lo pc0 s = .stop { s with
        mem := s.mem.write (s.sp - 1).toNat hi, fault := some (.writeProtectionViolation (s.sp - 2) lo pc0) }) ∨
    (0x1FFF < (s.sp - 1).toNat ∧ 0x1FFF < (s.sp - 2).toNat ∧
      push16 hi lo pc0 s = .go { s with
        mem := (s.mem.write (s.sp - 1).toNat hi).write (s.sp - 2).toNat lo, sp := s.sp - 2 }) := by
  unfold push16
  obtain ⟨h, e⟩ | ⟨h, e⟩ := memWrite_cases (s.sp - 1) hi pc0 s
  · exact .inl ⟨h, by rw [e]; rfl⟩
  · right
    rw [e, Flow.andThen_go]
    obtain ⟨h', e'⟩ | ⟨h', e'⟩ := memWrite_cases (s.sp - 2) lo pc0 { s with mem := s.mem.write (s.sp - 1).toNat hi }
    · exact .inl ⟨h, h', by rw [e']; rfl⟩
    · exact .inr ⟨h, h', by rw [e']; rfl⟩

/-- Accepting an interrupt: the push stops, or PC, IE and HALT change too (R353). -/
theorem acceptInterrupt_cases (n : Nat) (s : State) :
    ((s.sp - 1).toNat ≤ 0x1FFF ∧
      acceptInterrupt n s = .stop { s with fault := some (.writeProtectionViolation (s.sp - 1) (hiByte s.pc) s.pc) }) ∨
    (0x1FFF < (s.sp - 1).toNat ∧ (s.sp - 2).toNat ≤ 0x1FFF ∧
      acceptInterrupt n s = .stop { s with
        mem := s.mem.write (s.sp - 1).toNat (hiByte s.pc)
        fault := some (.writeProtectionViolation (s.sp - 2) (loByte s.pc) s.pc) }) ∨
    (0x1FFF < (s.sp - 1).toNat ∧ 0x1FFF < (s.sp - 2).toNat ∧
      acceptInterrupt n s = .go { s with
        mem := (s.mem.write (s.sp - 1).toNat (hiByte s.pc)).write (s.sp - 2).toNat (loByte s.pc)
        sp := s.sp - 2, pc := vectorAddress n, ie := false, halt := false }) := by
  unfold acceptInterrupt
  obtain ⟨h, e⟩ | ⟨h, h', e⟩ | ⟨h, h', e⟩ := push16_cases (hiByte s.pc) (loByte s.pc) s.pc s <;> rw [e]
  · exact .inl ⟨h, rfl⟩
  · exact .inr (.inl ⟨h, h', rfl⟩)
  · exact .inr (.inr ⟨h, h', rfl⟩)

/-! ## Ports -/

/-- An OUT sets the shift offset, shifts, sounds, resets or latches (R296). -/
theorem portWrite_cases (s : State) (p v : Byte) :
    (p = 2 ∧ s.portWrite p v = s.writeShiftOff v) ∨ (p = 4 ∧ s.portWrite p v = s.writeShift v) ∨
    ((p = 3 ∨ p = 5) ∧ s.portWrite p v = s.emit (.sound p v)) ∨
    (p = 6 ∧ s.portWrite p v = (s.emit .resetRequest).resetCore) ∨
    (p ∉ ([2, 3, 4, 5, 6] : List Byte) ∧ s.portWrite p v = s.writeLatch p v) := by
  by_cases h2 : p = 2
  · exact .inl ⟨h2, by simp [State.portWrite, h2]⟩
  by_cases h4 : p = 4
  · exact .inr (.inl ⟨h4, by simp [State.portWrite, h4]⟩)
  by_cases h35 : p = 3 ∨ p = 5
  · refine .inr (.inr (.inl ⟨h35, ?_⟩))
    rw [State.portWrite, if_neg h2, if_neg h4, if_pos h35]
  by_cases h6 : p = 6
  · refine .inr (.inr (.inr (.inl ⟨h6, ?_⟩)))
    rw [State.portWrite, if_neg h2, if_neg h4, if_neg h35, if_pos h6]
  · refine .inr (.inr (.inr (.inr ⟨?_, ?_⟩)))
    · simp only [List.mem_cons, List.not_mem_nil, or_false]
      tauto
    · rw [State.portWrite, if_neg h2, if_neg h4, if_neg h35, if_neg h6]

/-! ## The step -/

/-- A step is the no-op of a stopped core, the idle step of a halted one, or the fetched instruction (R341, R131, R130). -/
theorem step_cases {s t : State} (h : step s = .next t) :
    (s.fault ≠ none ∧ t = { s with out := Output.nothing }) ∨
    (s.fault = none ∧ s.halt = true ∧ t = { s with out := { cycles := some Config.haltIdleCycles, events := [] } }) ∨
    (s.fault = none ∧ s.halt = false ∧ exec (fetchInstr s) s = .next t) := by
  unfold step at h
  split at h
  · rename_i hf
    simp only [stoppedStep, Host.Outcome.next.injEq] at h
    exact .inl ⟨by simp [hf], h.symm⟩
  · rename_i hf
    split at h
    · rename_i hh
      simp only [idleStep, Host.Outcome.next.injEq] at h
      exact .inr (.inl ⟨hf, hh, h.symm⟩)
    · rename_i hh
      exact .inr (.inr ⟨hf, by simpa using hh, h⟩)

theorem step_of_stopped {s : State} {e : ErrorRecord} (h : s.fault = some e) : step s = .next { s with out := Output.nothing } := by
  simp [step, stoppedStep, h]

theorem step_of_running {s : State} (hf : s.fault = none) (hh : s.halt = false) : step s = exec (fetchInstr s) s := by
  simp [step, hf, hh]

/-! ## Host calls -/

theorem unlessStopped_running {s : State} (h : s.fault = none) (r : Result) : unlessStopped s r = r := by
  simp [unlessStopped, h]

theorem unlessStopped_stopped {s : State} {e : ErrorRecord} (h : s.fault = some e) (r : Result) :
    unlessStopped s r = .next s := by simp [unlessStopped, h]

/-- A stopped core keeps everything but the record of the last report, whatever the host calls (R341). -/
theorem hostCall_of_stopped {s : State} {e : ErrorRecord} (h : s.fault = some e) (c : HostCall) :
    hostCall c s = .next (if c = .execute then { s with out := Output.nothing } else s) := by
  cases c <;> first | exact step_of_stopped h | exact unlessStopped_stopped h _ | rfl

theorem replyUnlessRaised_stopped {s : State} {e : ErrorRecord} (h : s.fault = some e) (t : State) (own : Reply) :
    replyUnlessRaised s t own = .nothing := by simp [replyUnlessRaised, h]

theorem replyUnlessRaised_raised {s t : State} {e : ErrorRecord} (h : s.fault = none) (g : t.fault = some e) (own : Reply) :
    replyUnlessRaised s t own = .raised e := by simp [replyUnlessRaised, h, g]

theorem replyUnlessRaised_completed {s t : State} (h : s.fault = none) (g : t.fault = none) (own : Reply) :
    replyUnlessRaised s t own = own := by simp [replyUnlessRaised, h, g]

end Sys2Proof.Machine
end

