-- ==== Sys2Proof/Laws/Exec.lean ====
section
/-! SUPPORT. The meaning of each family of instructions as its shared operation, and the case split of exec into the shared
operations: a fact about every instruction is proved once per operation, not once per row. -/

namespace Sys2Proof.Machine

/-! ## One lemma per family -/

theorem exec_mov_reg_reg (dst r : Reg) (s : State) : exec (movInstr (.reg dst) (.reg r)) s = movRegReg dst r s := by
  cases dst <;> cases r <;> rfl
theorem exec_mov_reg_m (dst : Reg) (s : State) : exec (movInstr (.reg dst) .m) s = movRegMem dst s := by cases dst <;> rfl
theorem exec_mov_m_reg (r : Reg) (s : State) : exec (movInstr .m (.reg r)) s = movMemReg r s := by cases r <;> rfl
theorem exec_mvi_reg (dst : Reg) (v : Byte) (s : State) : exec (mviInstr (.reg dst) v) s = mviReg dst v s := by cases dst <;> rfl
theorem exec_mvi_m (v : Byte) (s : State) : exec (mviInstr .m v) s = mviMem v s := rfl
theorem exec_lxi (p : Pair) (v : Word) (s : State) : exec (lxiInstr p v) s = lxiPair p v s := by cases p <;> rfl
theorem exec_ldax (p : IndexPair) (s : State) : exec (ldaxInstr p) s = ldaxIndex p s := by cases p <;> rfl
theorem exec_stax (p : IndexPair) (s : State) : exec (staxInstr p) s = staxIndex p s := by cases p <;> rfl
theorem exec_alu_reg (op : AluOp) (r : Reg) (s : State) : exec (aluInstr op (.reg r)) s = aluReg op r s := by
  cases op <;> cases r <;> rfl
theorem exec_alu_m (op : AluOp) (s : State) : exec (aluInstr op .m) s = aluMem op s := by cases op <;> rfl
theorem exec_alu_imm (op : AluOp) (v : Byte) (s : State) : exec (aluImmInstr op v) s = aluImm op v s := by cases op <;> rfl
theorem exec_inr_reg (r : Reg) (s : State) : exec (inrInstr (.reg r)) s = inrReg r s := by cases r <;> rfl
theorem exec_inr_m (s : State) : exec (inrInstr .m) s = inrMem s := rfl
theorem exec_dcr_reg (r : Reg) (s : State) : exec (dcrInstr (.reg r)) s = dcrReg r s := by cases r <;> rfl
theorem exec_dcr_m (s : State) : exec (dcrInstr .m) s = dcrMem s := rfl
theorem exec_inx (p : Pair) (s : State) : exec (inxInstr p) s = inxPair p s := by cases p <;> rfl
theorem exec_dcx (p : Pair) (s : State) : exec (dcxInstr p) s = dcxPair p s := by cases p <;> rfl
theorem exec_dad (p : Pair) (s : State) : exec (dadInstr p) s = dadPair p s := by cases p <;> rfl
theorem exec_jcc (cc : Cond) (a : Word) (s : State) : exec (jccInstr cc a) s = jumpIf cc a s := by cases cc <;> rfl
theorem exec_ccc (cc : Cond) (a : Word) (s : State) : exec (cccInstr cc a) s = callIf cc a s := by cases cc <;> rfl
theorem exec_rcc (cc : Cond) (s : State) : exec (rccInstr cc) s = returnIf cc s := by cases cc <;> rfl
theorem exec_rst (n : Fin 8) (s : State) : exec (rstInstr n) s = callTo 1 11 (vectorAddress n.val) s := by
  fin_cases n <;> rfl
theorem exec_push (p : StackPair) (s : State) : exec (pushInstr p) s = pushPair p s := by cases p <;> rfl
theorem exec_pop (p : StackPair) (s : State) : exec (popInstr p) s = popPair p s := by cases p <;> rfl
theorem exec_illegal (i : Instr) (h : i.isIllegal = true) (s : State) : exec i s = unknownOpcode i.opcode s := by
  cases i <;> first | rfl | cases h

/-! ## The case split -/

/-- A property of every meaning's answer is proved once per shared operation. -/
theorem exec_shared {P : Result → Prop} {s : State}
    (movRR : ∀ dst r, P (movRegReg dst r s)) (movRM : ∀ dst, P (movRegMem dst s)) (movMR : ∀ r, P (movMemReg r s))
    (mviR : ∀ dst v, P (mviReg dst v s)) (mviM : ∀ v, P (mviMem v s)) (lxi : ∀ p v, P (lxiPair p v s))
    (lda : ∀ a, P (ldaDirect a s)) (sta : ∀ a, P (staDirect a s)) (lhld : ∀ a, P (lhldDirect a s))
    (shld : ∀ a, P (shldDirect a s)) (ldax : ∀ p, P (ldaxIndex p s)) (stax : ∀ p, P (staxIndex p s))
    (xchg : P (exchangeDeHl s)) (aluR : ∀ op r, P (aluReg op r s)) (aluM : ∀ op, P (aluMem op s))
    (aluI : ∀ op v, P (aluImm op v s)) (inrR : ∀ r, P (inrReg r s)) (inrM : P (inrMem s)) (dcrR : ∀ r, P (dcrReg r s))
    (dcrM : P (dcrMem s)) (inx : ∀ p, P (inxPair p s)) (dcx : ∀ p, P (dcxPair p s)) (dad : ∀ p, P (dadPair p s))
    (daa : P (decimalAdjustA s)) (rot : ∀ f, P (rotateA f s)) (cma : P (complementA s)) (stc : P (writeCarry true s))
    (cmc : P (complementCarry s)) (jmp : ∀ n a, P (jumpTo 3 n a s)) (jcc : ∀ cc a, P (jumpIf cc a s))
    (call : ∀ l n a, P (callTo l n a s)) (ccc : ∀ cc a, P (callIf cc a s)) (ret : ∀ n, P (returnWith n s))
    (rcc : ∀ cc, P (returnIf cc s)) (pchl : P (jumpToHl s)) (push : ∀ p, P (pushPair p s)) (pop : ∀ p, P (popPair p s))
    (xthl : P (exchangeTopHl s)) (sphl : P (loadSpFromHl s)) (inp : ∀ p, P (inputFrom p s)) (outp : ∀ p, P (outputTo p s))
    (nop : P (noOperation s)) (ie : ∀ v, P (writeIe v s)) (hlt : P (haltCore s)) (ill : ∀ b, P (unknownOpcode b s))
    (i : Instr) : P (exec i s) := by
  cases i with
  | nop => exact nop
  | lxiB imm => exact lxi _ _
  | staxB => exact stax _
  | inxB => exact inx _
  | inrB => exact inrR _
  | dcrB => exact dcrR _
  | mviB imm => exact mviR _ _
  | rlc => exact rot _
  | illegal08 => exact ill _
  | dadB => exact dad _
  | ldaxB => exact ldax _
  | dcxB => exact dcx _
  | inrC => exact inrR _
  | dcrC => exact dcrR _
  | mviC imm => exact mviR _ _
  | rrc => exact rot _
  | illegal10 => exact ill _
  | lxiD imm => exact lxi _ _
  | staxD => exact stax _
  | inxD => exact inx _
  | inrD => exact inrR _
  | dcrD => exact dcrR _
  | mviD imm => exact mviR _ _
  | ral => exact rot _
  | illegal18 => exact ill _
  | dadD => exact dad _
  | ldaxD => exact ldax _
  | dcxD => exact dcx _
  | inrE => exact inrR _
  | dcrE => exact dcrR _
  | mviE imm => exact mviR _ _
  | rar => exact rot _
  | illegal20 => exact ill _
  | lxiH imm => exact lxi _ _
  | shld imm => exact shld _
  | inxH => exact inx _
  | inrH => exact inrR _
  | dcrH => exact dcrR _
  | mviH imm => exact mviR _ _
  | daa => exact daa
  | illegal28 => exact ill _
  | dadH => exact dad _
  | lhld imm => exact lhld _
  | dcxH => exact dcx _
  | inrL => exact inrR _
  | dcrL => exact dcrR _
  | mviL imm => exact mviR _ _
  | cma => exact cma
  | illegal30 => exact ill _
  | lxiSp imm => exact lxi _ _
  | sta imm => exact sta _
  | inxSp => exact inx _
  | inrM => exact inrM
  | dcrM => exact dcrM
  | mviM imm => exact mviM _
  | stc => exact stc
  | illegal38 => exact ill _
  | dadSp => exact dad _
  | lda imm => exact lda _
  | dcxSp => exact dcx _
  | inrA => exact inrR _
  | dcrA => exact dcrR _
  | mviA imm => exact mviR _ _
  | cmc => exact cmc
  | movBB => exact movRR _ _
  | movBC => exact movRR _ _
  | movBD => exact movRR _ _
  | movBE => exact movRR _ _
  | movBH => exact movRR _ _
  | movBL => exact movRR _ _
  | movBM => exact movRM _
  | movBA => exact movRR _ _
  | movCB => exact movRR _ _
  | movCC => exact movRR _ _
  | movCD => exact movRR _ _
  | movCE => exact movRR _ _
  | movCH => exact movRR _ _
  | movCL => exact movRR _ _
  | movCM => exact movRM _
  | movCA => exact movRR _ _
  | movDB => exact movRR _ _
  | movDC => exact movRR _ _
  | movDD => exact movRR _ _
  | movDE => exact movRR _ _
  | movDH => exact movRR _ _
  | movDL => exact movRR _ _
  | movDM => exact movRM _
  | movDA => exact movRR _ _
  | movEB => exact movRR _ _
  | movEC => exact movRR _ _
  | movED => exact movRR _ _
  | movEE => exact movRR _ _
  | movEH => exact movRR _ _
  | movEL => exact movRR _ _
  | movEM => exact movRM _
  | movEA => exact movRR _ _
  | movHB => exact movRR _ _
  | movHC => exact movRR _ _
  | movHD => exact movRR _ _
  | movHE => exact movRR _ _
  | movHH => exact movRR _ _
  | movHL => exact movRR _ _
  | movHM => exact movRM _
  | movHA => exact movRR _ _
  | movLB => exact movRR _ _
  | movLC => exact movRR _ _
  | movLD => exact movRR _ _
  | movLE => exact movRR _ _
  | movLH => exact movRR _ _
  | movLL => exact movRR _ _
  | movLM => exact movRM _
  | movLA => exact movRR _ _
  | movMB => exact movMR _
  | movMC => exact movMR _
  | movMD => exact movMR _
  | movME => exact movMR _
  | movMH => exact movMR _
  | movML => exact movMR _
  | hlt => exact hlt
  | movMA => exact movMR _
  | movAB => exact movRR _ _
  | movAC => exact movRR _ _
  | movAD => exact movRR _ _
  | movAE => exact movRR _ _
  | movAH => exact movRR _ _
  | movAL => exact movRR _ _
  | movAM => exact movRM _
  | movAA => exact movRR _ _
  | addB => exact aluR _ _
  | addC => exact aluR _ _
  | addD => exact aluR _ _
  | addE => exact aluR _ _
  | addH => exact aluR _ _
  | addL => exact aluR _ _
  | addM => exact aluM _
  | addA => exact aluR _ _
  | adcB => exact aluR _ _
  | adcC => exact aluR _ _
  | adcD => exact aluR _ _
  | adcE => exact aluR _ _
  | adcH => exact aluR _ _
  | adcL => exact aluR _ _
  | adcM => exact aluM _
  | adcA => exact aluR _ _
  | subB => exact aluR _ _
  | subC => exact aluR _ _
  | subD => exact aluR _ _
  | subE => exact aluR _ _
  | subH => exact aluR _ _
  | subL => exact aluR _ _
  | subM => exact aluM _
  | subA => exact aluR _ _
  | sbbB => exact aluR _ _
  | sbbC => exact aluR _ _
  | sbbD => exact aluR _ _
  | sbbE => exact aluR _ _
  | sbbH => exact aluR _ _
  | sbbL => exact aluR _ _
  | sbbM => exact aluM _
  | sbbA => exact aluR _ _
  | anaB => exact aluR _ _
  | anaC => exact aluR _ _
  | anaD => exact aluR _ _
  | anaE => exact aluR _ _
  | anaH => exact aluR _ _
  | anaL => exact aluR _ _
  | anaM => exact aluM _
  | anaA => exact aluR _ _
  | xraB => exact aluR _ _
  | xraC => exact aluR _ _
  | xraD => exact aluR _ _
  | xraE => exact aluR _ _
  | xraH => exact aluR _ _
  | xraL => exact aluR _ _
  | xraM => exact aluM _
  | xraA => exact aluR _ _
  | oraB => exact aluR _ _
  | oraC => exact aluR _ _
  | oraD => exact aluR _ _
  | oraE => exact aluR _ _
  | oraH => exact aluR _ _
  | oraL => exact aluR _ _
  | oraM => exact aluM _
  | oraA => exact aluR _ _
  | cmpB => exact aluR _ _
  | cmpC => exact aluR _ _
  | cmpD => exact aluR _ _
  | cmpE => exact aluR _ _
  | cmpH => exact aluR _ _
  | cmpL => exact aluR _ _
  | cmpM => exact aluM _
  | cmpA => exact aluR _ _
  | rnz => exact rcc _
  | popB => exact pop _
  | jnz imm => exact jcc _ _
  | jmp imm => exact jmp _ _
  | cnz imm => exact ccc _ _
  | pushB => exact push _
  | adi imm => exact aluI _ _
  | rst0 => exact call _ _ _
  | rz => exact rcc _
  | ret => exact ret _
  | jz imm => exact jcc _ _
  | illegalCB => exact ill _
  | cz imm => exact ccc _ _
  | call imm => exact call _ _ _
  | aci imm => exact aluI _ _
  | rst1 => exact call _ _ _
  | rnc => exact rcc _
  | popD => exact pop _
  | jnc imm => exact jcc _ _
  | outPort imm => exact outp _
  | cnc imm => exact ccc _ _
  | pushD => exact push _
  | sui imm => exact aluI _ _
  | rst2 => exact call _ _ _
  | rc => exact rcc _
  | illegalD9 => exact ill _
  | jc imm => exact jcc _ _
  | inPort imm => exact inp _
  | cc imm => exact ccc _ _
  | illegalDD => exact ill _
  | sbi imm => exact aluI _ _
  | rst3 => exact call _ _ _
  | rpo => exact rcc _
  | popH => exact pop _
  | jpo imm => exact jcc _ _
  | xthl => exact xthl
  | cpo imm => exact ccc _ _
  | pushH => exact push _
  | ani imm => exact aluI _ _
  | rst4 => exact call _ _ _
  | rpe => exact rcc _
  | pchl => exact pchl
  | jpe imm => exact jcc _ _
  | xchg => exact xchg
  | cpe imm => exact ccc _ _
  | illegalED => exact ill _
  | xri imm => exact aluI _ _
  | rst5 => exact call _ _ _
  | rp => exact rcc _
  | popPsw => exact pop _
  | jp imm => exact jcc _ _
  | di => exact ie _
  | cp imm => exact ccc _ _
  | pushPsw => exact push _
  | ori imm => exact aluI _ _
  | rst6 => exact call _ _ _
  | rm => exact rcc _
  | sphl => exact sphl
  | jm imm => exact jcc _ _
  | ei => exact ie _
  | cm imm => exact ccc _ _
  | illegalFD => exact ill _
  | cpi imm => exact aluI _ _
  | rst7 => exact call _ _ _

end Sys2Proof.Machine
end

