-- ==== Sys2Proof/Laws/Flags.lean ====
section
/-! SUPPORT. For each flag function, one lemma that says in numbers what it computes. -/

namespace Sys2Proof.Machine

theorem popcount_eq_onesIn (v : Byte) : popcount v = onesIn v := by
  simp only [popcount, onesIn, List.range, List.range.loop, List.countP, List.countP.go]
  generalize v.getLsbD 0 = b0; generalize v.getLsbD 1 = b1; generalize v.getLsbD 2 = b2; generalize v.getLsbD 3 = b3
  generalize v.getLsbD 4 = b4; generalize v.getLsbD 5 = b5; generalize v.getLsbD 6 = b6; generalize v.getLsbD 7 = b7
  revert b0 b1 b2 b3 b4 b5 b6 b7
  decide

/-- `set_szp` gives the S, Z and P of the byte (R146). -/
theorem setSzp_szpOf (v : Byte) (f : Flags) : SzpOf v (setSzp v f) := by
  refine ⟨?_, ?_, ?_⟩
  · show sign v = true ↔ _
    rw [sign, BitVec.getLsbD, Nat.testBit]
    have := v.isLt
    simp [Nat.shiftRight_eq_div_pow]
    omega
  · show zero v = true ↔ _
    simp [zero]
  · show parity v = true ↔ _
    simp [parity, popcount_eq_onesIn]

theorem low_nibble_toNat (v : Byte) : (v &&& 0xF).toNat = v.toNat % 16 := by
  rw [BitVec.toNat_and]
  exact Nat.and_two_pow_sub_one_eq_mod v.toNat 4

/-- `aux_carry` is the carry out of bit 3 (R144). -/
theorem auxCarry_iff (a b : Byte) (c : Bool) : auxCarry a b c = true ↔ 15 < a.toNat % 16 + b.toNat % 16 + c.toNat := by
  simp only [auxCarry, low_nibble_toNat, decide_eq_true_eq]

/-- `aux_sub` is true when the low nibble needs no borrow (R145). -/
theorem auxSub_iff (a b : Byte) (c : Bool) : auxSub a b c = true ↔ b.toNat % 16 + c.toNat ≤ a.toNat % 16 := by
  have hb : (~~~b).toNat % 16 = 15 - b.toNat % 16 := by
    have := b.isLt
    simp
    omega
  rw [auxSub, auxCarry_iff, hb]
  cases c <;> simp <;> omega

/-- `sub_wide` is the difference mod 2^16 (R143). -/
theorem subWide_toNat (a b : Byte) (c : Bool) : (subWide a b c).toNat = (a.toNat + 65536 - b.toNat - c.toNat) % 65536 := by
  have := a.isLt
  have := b.isLt
  cases c <;> simp [subWide] <;> omega

end Sys2Proof.Machine
end

