-- ==== Sys2Proof/Laws/PerInstr.lean ====
section
/-! SUPPORT. The family RowLength: the bytes of an instruction are as many as its opcode byte says (30_encoding.md R100). -/

namespace Sys2Proof.Laws.RowLength

/-- The encoded instruction is as long as the length told from its opcode byte alone (R100). -/
def Statement (i : Instr) : Prop := (encode i).length = lengthOf i.opcode

/-- It is enough to know the bytes: one opcode byte and `n` operand bytes. -/
theorem of_bytes {i : Instr} (op : Byte) (n : Nat) {ops : List Byte} (h : encode i = op :: ops) (hn : ops.length = n)
    (hl : n + 1 = lengthOf op) : Statement i := by
  simp [Statement, Instr.opcode, h, hn, hl]

theorem nop : Statement (.nop) := of_bytes 0x00 0 rfl rfl (by decide)
theorem lxiB (imm : Word) : Statement (.lxiB imm) := of_bytes 0x01 2 rfl rfl (by decide)
theorem staxB : Statement (.staxB) := of_bytes 0x02 0 rfl rfl (by decide)
theorem inxB : Statement (.inxB) := of_bytes 0x03 0 rfl rfl (by decide)
theorem inrB : Statement (.inrB) := of_bytes 0x04 0 rfl rfl (by decide)
theorem dcrB : Statement (.dcrB) := of_bytes 0x05 0 rfl rfl (by decide)
theorem mviB (imm : Byte) : Statement (.mviB imm) := of_bytes 0x06 1 rfl rfl (by decide)
theorem rlc : Statement (.rlc) := of_bytes 0x07 0 rfl rfl (by decide)
theorem illegal08 : Statement (.illegal08) := of_bytes 0x08 0 rfl rfl (by decide)
theorem dadB : Statement (.dadB) := of_bytes 0x09 0 rfl rfl (by decide)
theorem ldaxB : Statement (.ldaxB) := of_bytes 0x0A 0 rfl rfl (by decide)
theorem dcxB : Statement (.dcxB) := of_bytes 0x0B 0 rfl rfl (by decide)
theorem inrC : Statement (.inrC) := of_bytes 0x0C 0 rfl rfl (by decide)
theorem dcrC : Statement (.dcrC) := of_bytes 0x0D 0 rfl rfl (by decide)
theorem mviC (imm : Byte) : Statement (.mviC imm) := of_bytes 0x0E 1 rfl rfl (by decide)
theorem rrc : Statement (.rrc) := of_bytes 0x0F 0 rfl rfl (by decide)
theorem illegal10 : Statement (.illegal10) := of_bytes 0x10 0 rfl rfl (by decide)
theorem lxiD (imm : Word) : Statement (.lxiD imm) := of_bytes 0x11 2 rfl rfl (by decide)
theorem staxD : Statement (.staxD) := of_bytes 0x12 0 rfl rfl (by decide)
theorem inxD : Statement (.inxD) := of_bytes 0x13 0 rfl rfl (by decide)
theorem inrD : Statement (.inrD) := of_bytes 0x14 0 rfl rfl (by decide)
theorem dcrD : Statement (.dcrD) := of_bytes 0x15 0 rfl rfl (by decide)
theorem mviD (imm : Byte) : Statement (.mviD imm) := of_bytes 0x16 1 rfl rfl (by decide)
theorem ral : Statement (.ral) := of_bytes 0x17 0 rfl rfl (by decide)
theorem illegal18 : Statement (.illegal18) := of_bytes 0x18 0 rfl rfl (by decide)
theorem dadD : Statement (.dadD) := of_bytes 0x19 0 rfl rfl (by decide)
theorem ldaxD : Statement (.ldaxD) := of_bytes 0x1A 0 rfl rfl (by decide)
theorem dcxD : Statement (.dcxD) := of_bytes 0x1B 0 rfl rfl (by decide)
theorem inrE : Statement (.inrE) := of_bytes 0x1C 0 rfl rfl (by decide)
theorem dcrE : Statement (.dcrE) := of_bytes 0x1D 0 rfl rfl (by decide)
theorem mviE (imm : Byte) : Statement (.mviE imm) := of_bytes 0x1E 1 rfl rfl (by decide)
theorem rar : Statement (.rar) := of_bytes 0x1F 0 rfl rfl (by decide)
theorem illegal20 : Statement (.illegal20) := of_bytes 0x20 0 rfl rfl (by decide)
theorem lxiH (imm : Word) : Statement (.lxiH imm) := of_bytes 0x21 2 rfl rfl (by decide)
theorem shld (imm : Word) : Statement (.shld imm) := of_bytes 0x22 2 rfl rfl (by decide)
theorem inxH : Statement (.inxH) := of_bytes 0x23 0 rfl rfl (by decide)
theorem inrH : Statement (.inrH) := of_bytes 0x24 0 rfl rfl (by decide)
theorem dcrH : Statement (.dcrH) := of_bytes 0x25 0 rfl rfl (by decide)
theorem mviH (imm : Byte) : Statement (.mviH imm) := of_bytes 0x26 1 rfl rfl (by decide)
theorem daa : Statement (.daa) := of_bytes 0x27 0 rfl rfl (by decide)
theorem illegal28 : Statement (.illegal28) := of_bytes 0x28 0 rfl rfl (by decide)
theorem dadH : Statement (.dadH) := of_bytes 0x29 0 rfl rfl (by decide)
theorem lhld (imm : Word) : Statement (.lhld imm) := of_bytes 0x2A 2 rfl rfl (by decide)
theorem dcxH : Statement (.dcxH) := of_bytes 0x2B 0 rfl rfl (by decide)
theorem inrL : Statement (.inrL) := of_bytes 0x2C 0 rfl rfl (by decide)
theorem dcrL : Statement (.dcrL) := of_bytes 0x2D 0 rfl rfl (by decide)
theorem mviL (imm : Byte) : Statement (.mviL imm) := of_bytes 0x2E 1 rfl rfl (by decide)
theorem cma : Statement (.cma) := of_bytes 0x2F 0 rfl rfl (by decide)
theorem illegal30 : Statement (.illegal30) := of_bytes 0x30 0 rfl rfl (by decide)
theorem lxiSp (imm : Word) : Statement (.lxiSp imm) := of_bytes 0x31 2 rfl rfl (by decide)
theorem sta (imm : Word) : Statement (.sta imm) := of_bytes 0x32 2 rfl rfl (by decide)
theorem inxSp : Statement (.inxSp) := of_bytes 0x33 0 rfl rfl (by decide)
theorem inrM : Statement (.inrM) := of_bytes 0x34 0 rfl rfl (by decide)
theorem dcrM : Statement (.dcrM) := of_bytes 0x35 0 rfl rfl (by decide)
theorem mviM (imm : Byte) : Statement (.mviM imm) := of_bytes 0x36 1 rfl rfl (by decide)
theorem stc : Statement (.stc) := of_bytes 0x37 0 rfl rfl (by decide)
theorem illegal38 : Statement (.illegal38) := of_bytes 0x38 0 rfl rfl (by decide)
theorem dadSp : Statement (.dadSp) := of_bytes 0x39 0 rfl rfl (by decide)
theorem lda (imm : Word) : Statement (.lda imm) := of_bytes 0x3A 2 rfl rfl (by decide)
theorem dcxSp : Statement (.dcxSp) := of_bytes 0x3B 0 rfl rfl (by decide)
theorem inrA : Statement (.inrA) := of_bytes 0x3C 0 rfl rfl (by decide)
theorem dcrA : Statement (.dcrA) := of_bytes 0x3D 0 rfl rfl (by decide)
theorem mviA (imm : Byte) : Statement (.mviA imm) := of_bytes 0x3E 1 rfl rfl (by decide)
theorem cmc : Statement (.cmc) := of_bytes 0x3F 0 rfl rfl (by decide)
theorem movBB : Statement (.movBB) := of_bytes 0x40 0 rfl rfl (by decide)
theorem movBC : Statement (.movBC) := of_bytes 0x41 0 rfl rfl (by decide)
theorem movBD : Statement (.movBD) := of_bytes 0x42 0 rfl rfl (by decide)
theorem movBE : Statement (.movBE) := of_bytes 0x43 0 rfl rfl (by decide)
theorem movBH : Statement (.movBH) := of_bytes 0x44 0 rfl rfl (by decide)
theorem movBL : Statement (.movBL) := of_bytes 0x45 0 rfl rfl (by decide)
theorem movBM : Statement (.movBM) := of_bytes 0x46 0 rfl rfl (by decide)
theorem movBA : Statement (.movBA) := of_bytes 0x47 0 rfl rfl (by decide)
theorem movCB : Statement (.movCB) := of_bytes 0x48 0 rfl rfl (by decide)
theorem movCC : Statement (.movCC) := of_bytes 0x49 0 rfl rfl (by decide)
theorem movCD : Statement (.movCD) := of_bytes 0x4A 0 rfl rfl (by decide)
theorem movCE : Statement (.movCE) := of_bytes 0x4B 0 rfl rfl (by decide)
theorem movCH : Statement (.movCH) := of_bytes 0x4C 0 rfl rfl (by decide)
theorem movCL : Statement (.movCL) := of_bytes 0x4D 0 rfl rfl (by decide)
theorem movCM : Statement (.movCM) := of_bytes 0x4E 0 rfl rfl (by decide)
theorem movCA : Statement (.movCA) := of_bytes 0x4F 0 rfl rfl (by decide)
theorem movDB : Statement (.movDB) := of_bytes 0x50 0 rfl rfl (by decide)
theorem movDC : Statement (.movDC) := of_bytes 0x51 0 rfl rfl (by decide)
theorem movDD : Statement (.movDD) := of_bytes 0x52 0 rfl rfl (by decide)
theorem movDE : Statement (.movDE) := of_bytes 0x53 0 rfl rfl (by decide)
theorem movDH : Statement (.movDH) := of_bytes 0x54 0 rfl rfl (by decide)
theorem movDL : Statement (.movDL) := of_bytes 0x55 0 rfl rfl (by decide)
theorem movDM : Statement (.movDM) := of_bytes 0x56 0 rfl rfl (by decide)
theorem movDA : Statement (.movDA) := of_bytes 0x57 0 rfl rfl (by decide)
theorem movEB : Statement (.movEB) := of_bytes 0x58 0 rfl rfl (by decide)
theorem movEC : Statement (.movEC) := of_bytes 0x59 0 rfl rfl (by decide)
theorem movED : Statement (.movED) := of_bytes 0x5A 0 rfl rfl (by decide)
theorem movEE : Statement (.movEE) := of_bytes 0x5B 0 rfl rfl (by decide)
theorem movEH : Statement (.movEH) := of_bytes 0x5C 0 rfl rfl (by decide)
theorem movEL : Statement (.movEL) := of_bytes 0x5D 0 rfl rfl (by decide)
theorem movEM : Statement (.movEM) := of_bytes 0x5E 0 rfl rfl (by decide)
theorem movEA : Statement (.movEA) := of_bytes 0x5F 0 rfl rfl (by decide)
theorem movHB : Statement (.movHB) := of_bytes 0x60 0 rfl rfl (by decide)
theorem movHC : Statement (.movHC) := of_bytes 0x61 0 rfl rfl (by decide)
theorem movHD : Statement (.movHD) := of_bytes 0x62 0 rfl rfl (by decide)
theorem movHE : Statement (.movHE) := of_bytes 0x63 0 rfl rfl (by decide)
theorem movHH : Statement (.movHH) := of_bytes 0x64 0 rfl rfl (by decide)
theorem movHL : Statement (.movHL) := of_bytes 0x65 0 rfl rfl (by decide)
theorem movHM : Statement (.movHM) := of_bytes 0x66 0 rfl rfl (by decide)
theorem movHA : Statement (.movHA) := of_bytes 0x67 0 rfl rfl (by decide)
theorem movLB : Statement (.movLB) := of_bytes 0x68 0 rfl rfl (by decide)
theorem movLC : Statement (.movLC) := of_bytes 0x69 0 rfl rfl (by decide)
theorem movLD : Statement (.movLD) := of_bytes 0x6A 0 rfl rfl (by decide)
theorem movLE : Statement (.movLE) := of_bytes 0x6B 0 rfl rfl (by decide)
theorem movLH : Statement (.movLH) := of_bytes 0x6C 0 rfl rfl (by decide)
theorem movLL : Statement (.movLL) := of_bytes 0x6D 0 rfl rfl (by decide)
theorem movLM : Statement (.movLM) := of_bytes 0x6E 0 rfl rfl (by decide)
theorem movLA : Statement (.movLA) := of_bytes 0x6F 0 rfl rfl (by decide)
theorem movMB : Statement (.movMB) := of_bytes 0x70 0 rfl rfl (by decide)
theorem movMC : Statement (.movMC) := of_bytes 0x71 0 rfl rfl (by decide)
theorem movMD : Statement (.movMD) := of_bytes 0x72 0 rfl rfl (by decide)
theorem movME : Statement (.movME) := of_bytes 0x73 0 rfl rfl (by decide)
theorem movMH : Statement (.movMH) := of_bytes 0x74 0 rfl rfl (by decide)
theorem movML : Statement (.movML) := of_bytes 0x75 0 rfl rfl (by decide)
theorem hlt : Statement (.hlt) := of_bytes 0x76 0 rfl rfl (by decide)
theorem movMA : Statement (.movMA) := of_bytes 0x77 0 rfl rfl (by decide)
theorem movAB : Statement (.movAB) := of_bytes 0x78 0 rfl rfl (by decide)
theorem movAC : Statement (.movAC) := of_bytes 0x79 0 rfl rfl (by decide)
theorem movAD : Statement (.movAD) := of_bytes 0x7A 0 rfl rfl (by decide)
theorem movAE : Statement (.movAE) := of_bytes 0x7B 0 rfl rfl (by decide)
theorem movAH : Statement (.movAH) := of_bytes 0x7C 0 rfl rfl (by decide)
theorem movAL : Statement (.movAL) := of_bytes 0x7D 0 rfl rfl (by decide)
theorem movAM : Statement (.movAM) := of_bytes 0x7E 0 rfl rfl (by decide)
theorem movAA : Statement (.movAA) := of_bytes 0x7F 0 rfl rfl (by decide)
theorem addB : Statement (.addB) := of_bytes 0x80 0 rfl rfl (by decide)
theorem addC : Statement (.addC) := of_bytes 0x81 0 rfl rfl (by decide)
theorem addD : Statement (.addD) := of_bytes 0x82 0 rfl rfl (by decide)
theorem addE : Statement (.addE) := of_bytes 0x83 0 rfl rfl (by decide)
theorem addH : Statement (.addH) := of_bytes 0x84 0 rfl rfl (by decide)
theorem addL : Statement (.addL) := of_bytes 0x85 0 rfl rfl (by decide)
theorem addM : Statement (.addM) := of_bytes 0x86 0 rfl rfl (by decide)
theorem addA : Statement (.addA) := of_bytes 0x87 0 rfl rfl (by decide)
theorem adcB : Statement (.adcB) := of_bytes 0x88 0 rfl rfl (by decide)
theorem adcC : Statement (.adcC) := of_bytes 0x89 0 rfl rfl (by decide)
theorem adcD : Statement (.adcD) := of_bytes 0x8A 0 rfl rfl (by decide)
theorem adcE : Statement (.adcE) := of_bytes 0x8B 0 rfl rfl (by decide)
theorem adcH : Statement (.adcH) := of_bytes 0x8C 0 rfl rfl (by decide)
theorem adcL : Statement (.adcL) := of_bytes 0x8D 0 rfl rfl (by decide)
theorem adcM : Statement (.adcM) := of_bytes 0x8E 0 rfl rfl (by decide)
theorem adcA : Statement (.adcA) := of_bytes 0x8F 0 rfl rfl (by decide)
theorem subB : Statement (.subB) := of_bytes 0x90 0 rfl rfl (by decide)
theorem subC : Statement (.subC) := of_bytes 0x91 0 rfl rfl (by decide)
theorem subD : Statement (.subD) := of_bytes 0x92 0 rfl rfl (by decide)
theorem subE : Statement (.subE) := of_bytes 0x93 0 rfl rfl (by decide)
theorem subH : Statement (.subH) := of_bytes 0x94 0 rfl rfl (by decide)
theorem subL : Statement (.subL) := of_bytes 0x95 0 rfl rfl (by decide)
theorem subM : Statement (.subM) := of_bytes 0x96 0 rfl rfl (by decide)
theorem subA : Statement (.subA) := of_bytes 0x97 0 rfl rfl (by decide)
theorem sbbB : Statement (.sbbB) := of_bytes 0x98 0 rfl rfl (by decide)
theorem sbbC : Statement (.sbbC) := of_bytes 0x99 0 rfl rfl (by decide)
theorem sbbD : Statement (.sbbD) := of_bytes 0x9A 0 rfl rfl (by decide)
theorem sbbE : Statement (.sbbE) := of_bytes 0x9B 0 rfl rfl (by decide)
theorem sbbH : Statement (.sbbH) := of_bytes 0x9C 0 rfl rfl (by decide)
theorem sbbL : Statement (.sbbL) := of_bytes 0x9D 0 rfl rfl (by decide)
theorem sbbM : Statement (.sbbM) := of_bytes 0x9E 0 rfl rfl (by decide)
theorem sbbA : Statement (.sbbA) := of_bytes 0x9F 0 rfl rfl (by decide)
theorem anaB : Statement (.anaB) := of_bytes 0xA0 0 rfl rfl (by decide)
theorem anaC : Statement (.anaC) := of_bytes 0xA1 0 rfl rfl (by decide)
theorem anaD : Statement (.anaD) := of_bytes 0xA2 0 rfl rfl (by decide)
theorem anaE : Statement (.anaE) := of_bytes 0xA3 0 rfl rfl (by decide)
theorem anaH : Statement (.anaH) := of_bytes 0xA4 0 rfl rfl (by decide)
theorem anaL : Statement (.anaL) := of_bytes 0xA5 0 rfl rfl (by decide)
theorem anaM : Statement (.anaM) := of_bytes 0xA6 0 rfl rfl (by decide)
theorem anaA : Statement (.anaA) := of_bytes 0xA7 0 rfl rfl (by decide)
theorem xraB : Statement (.xraB) := of_bytes 0xA8 0 rfl rfl (by decide)
theorem xraC : Statement (.xraC) := of_bytes 0xA9 0 rfl rfl (by decide)
theorem xraD : Statement (.xraD) := of_bytes 0xAA 0 rfl rfl (by decide)
theorem xraE : Statement (.xraE) := of_bytes 0xAB 0 rfl rfl (by decide)
theorem xraH : Statement (.xraH) := of_bytes 0xAC 0 rfl rfl (by decide)
theorem xraL : Statement (.xraL) := of_bytes 0xAD 0 rfl rfl (by decide)
theorem xraM : Statement (.xraM) := of_bytes 0xAE 0 rfl rfl (by decide)
theorem xraA : Statement (.xraA) := of_bytes 0xAF 0 rfl rfl (by decide)
theorem oraB : Statement (.oraB) := of_bytes 0xB0 0 rfl rfl (by decide)
theorem oraC : Statement (.oraC) := of_bytes 0xB1 0 rfl rfl (by decide)
theorem oraD : Statement (.oraD) := of_bytes 0xB2 0 rfl rfl (by decide)
theorem oraE : Statement (.oraE) := of_bytes 0xB3 0 rfl rfl (by decide)
theorem oraH : Statement (.oraH) := of_bytes 0xB4 0 rfl rfl (by decide)
theorem oraL : Statement (.oraL) := of_bytes 0xB5 0 rfl rfl (by decide)
theorem oraM : Statement (.oraM) := of_bytes 0xB6 0 rfl rfl (by decide)
theorem oraA : Statement (.oraA) := of_bytes 0xB7 0 rfl rfl (by decide)
theorem cmpB : Statement (.cmpB) := of_bytes 0xB8 0 rfl rfl (by decide)
theorem cmpC : Statement (.cmpC) := of_bytes 0xB9 0 rfl rfl (by decide)
theorem cmpD : Statement (.cmpD) := of_bytes 0xBA 0 rfl rfl (by decide)
theorem cmpE : Statement (.cmpE) := of_bytes 0xBB 0 rfl rfl (by decide)
theorem cmpH : Statement (.cmpH) := of_bytes 0xBC 0 rfl rfl (by decide)
theorem cmpL : Statement (.cmpL) := of_bytes 0xBD 0 rfl rfl (by decide)
theorem cmpM : Statement (.cmpM) := of_bytes 0xBE 0 rfl rfl (by decide)
theorem cmpA : Statement (.cmpA) := of_bytes 0xBF 0 rfl rfl (by decide)
theorem rnz : Statement (.rnz) := of_bytes 0xC0 0 rfl rfl (by decide)
theorem popB : Statement (.popB) := of_bytes 0xC1 0 rfl rfl (by decide)
theorem jnz (imm : Word) : Statement (.jnz imm) := of_bytes 0xC2 2 rfl rfl (by decide)
theorem jmp (imm : Word) : Statement (.jmp imm) := of_bytes 0xC3 2 rfl rfl (by decide)
theorem cnz (imm : Word) : Statement (.cnz imm) := of_bytes 0xC4 2 rfl rfl (by decide)
theorem pushB : Statement (.pushB) := of_bytes 0xC5 0 rfl rfl (by decide)
theorem adi (imm : Byte) : Statement (.adi imm) := of_bytes 0xC6 1 rfl rfl (by decide)
theorem rst0 : Statement (.rst0) := of_bytes 0xC7 0 rfl rfl (by decide)
theorem rz : Statement (.rz) := of_bytes 0xC8 0 rfl rfl (by decide)
theorem ret : Statement (.ret) := of_bytes 0xC9 0 rfl rfl (by decide)
theorem jz (imm : Word) : Statement (.jz imm) := of_bytes 0xCA 2 rfl rfl (by decide)
theorem illegalCB : Statement (.illegalCB) := of_bytes 0xCB 0 rfl rfl (by decide)
theorem cz (imm : Word) : Statement (.cz imm) := of_bytes 0xCC 2 rfl rfl (by decide)
theorem call (imm : Word) : Statement (.call imm) := of_bytes 0xCD 2 rfl rfl (by decide)
theorem aci (imm : Byte) : Statement (.aci imm) := of_bytes 0xCE 1 rfl rfl (by decide)
theorem rst1 : Statement (.rst1) := of_bytes 0xCF 0 rfl rfl (by decide)
theorem rnc : Statement (.rnc) := of_bytes 0xD0 0 rfl rfl (by decide)
theorem popD : Statement (.popD) := of_bytes 0xD1 0 rfl rfl (by decide)
theorem jnc (imm : Word) : Statement (.jnc imm) := of_bytes 0xD2 2 rfl rfl (by decide)
theorem outPort (imm : Byte) : Statement (.outPort imm) := of_bytes 0xD3 1 rfl rfl (by decide)
theorem cnc (imm : Word) : Statement (.cnc imm) := of_bytes 0xD4 2 rfl rfl (by decide)
theorem pushD : Statement (.pushD) := of_bytes 0xD5 0 rfl rfl (by decide)
theorem sui (imm : Byte) : Statement (.sui imm) := of_bytes 0xD6 1 rfl rfl (by decide)
theorem rst2 : Statement (.rst2) := of_bytes 0xD7 0 rfl rfl (by decide)
theorem rc : Statement (.rc) := of_bytes 0xD8 0 rfl rfl (by decide)
theorem illegalD9 : Statement (.illegalD9) := of_bytes 0xD9 0 rfl rfl (by decide)
theorem jc (imm : Word) : Statement (.jc imm) := of_bytes 0xDA 2 rfl rfl (by decide)
theorem inPort (imm : Byte) : Statement (.inPort imm) := of_bytes 0xDB 1 rfl rfl (by decide)
theorem cc (imm : Word) : Statement (.cc imm) := of_bytes 0xDC 2 rfl rfl (by decide)
theorem illegalDD : Statement (.illegalDD) := of_bytes 0xDD 0 rfl rfl (by decide)
theorem sbi (imm : Byte) : Statement (.sbi imm) := of_bytes 0xDE 1 rfl rfl (by decide)
theorem rst3 : Statement (.rst3) := of_bytes 0xDF 0 rfl rfl (by decide)
theorem rpo : Statement (.rpo) := of_bytes 0xE0 0 rfl rfl (by decide)
theorem popH : Statement (.popH) := of_bytes 0xE1 0 rfl rfl (by decide)
theorem jpo (imm : Word) : Statement (.jpo imm) := of_bytes 0xE2 2 rfl rfl (by decide)
theorem xthl : Statement (.xthl) := of_bytes 0xE3 0 rfl rfl (by decide)
theorem cpo (imm : Word) : Statement (.cpo imm) := of_bytes 0xE4 2 rfl rfl (by decide)
theorem pushH : Statement (.pushH) := of_bytes 0xE5 0 rfl rfl (by decide)
theorem ani (imm : Byte) : Statement (.ani imm) := of_bytes 0xE6 1 rfl rfl (by decide)
theorem rst4 : Statement (.rst4) := of_bytes 0xE7 0 rfl rfl (by decide)
theorem rpe : Statement (.rpe) := of_bytes 0xE8 0 rfl rfl (by decide)
theorem pchl : Statement (.pchl) := of_bytes 0xE9 0 rfl rfl (by decide)
theorem jpe (imm : Word) : Statement (.jpe imm) := of_bytes 0xEA 2 rfl rfl (by decide)
theorem xchg : Statement (.xchg) := of_bytes 0xEB 0 rfl rfl (by decide)
theorem cpe (imm : Word) : Statement (.cpe imm) := of_bytes 0xEC 2 rfl rfl (by decide)
theorem illegalED : Statement (.illegalED) := of_bytes 0xED 0 rfl rfl (by decide)
theorem xri (imm : Byte) : Statement (.xri imm) := of_bytes 0xEE 1 rfl rfl (by decide)
theorem rst5 : Statement (.rst5) := of_bytes 0xEF 0 rfl rfl (by decide)
theorem rp : Statement (.rp) := of_bytes 0xF0 0 rfl rfl (by decide)
theorem popPsw : Statement (.popPsw) := of_bytes 0xF1 0 rfl rfl (by decide)
theorem jp (imm : Word) : Statement (.jp imm) := of_bytes 0xF2 2 rfl rfl (by decide)
theorem di : Statement (.di) := of_bytes 0xF3 0 rfl rfl (by decide)
theorem cp (imm : Word) : Statement (.cp imm) := of_bytes 0xF4 2 rfl rfl (by decide)
theorem pushPsw : Statement (.pushPsw) := of_bytes 0xF5 0 rfl rfl (by decide)
theorem ori (imm : Byte) : Statement (.ori imm) := of_bytes 0xF6 1 rfl rfl (by decide)
theorem rst6 : Statement (.rst6) := of_bytes 0xF7 0 rfl rfl (by decide)
theorem rm : Statement (.rm) := of_bytes 0xF8 0 rfl rfl (by decide)
theorem sphl : Statement (.sphl) := of_bytes 0xF9 0 rfl rfl (by decide)
theorem jm (imm : Word) : Statement (.jm imm) := of_bytes 0xFA 2 rfl rfl (by decide)
theorem ei : Statement (.ei) := of_bytes 0xFB 0 rfl rfl (by decide)
theorem cm (imm : Word) : Statement (.cm imm) := of_bytes 0xFC 2 rfl rfl (by decide)
theorem illegalFD : Statement (.illegalFD) := of_bytes 0xFD 0 rfl rfl (by decide)
theorem cpi (imm : Byte) : Statement (.cpi imm) := of_bytes 0xFE 1 rfl rfl (by decide)
theorem rst7 : Statement (.rst7) := of_bytes 0xFF 0 rfl rfl (by decide)

end Sys2Proof.Laws.RowLength
end

