-- ==== Sys2Proof/Tests/Slice0.lean ====
section
/-! SUPPORT. Tests: the well-formedness smoke, decoding, single steps with expected results taken from spec/95_test_vectors.md
(V-... and S... name its rows), and for every obligation with hypotheses a witness that meets them. -/

namespace Sys2Proof.Tests

open Sys2Proof Sys2Proof.Machine

/-! ## Helpers -/

/-- The start of the vectors: PC = 0x2000, SP = 0x2400, everything else as after power-on. -/
def start : State := { State.reset with pc := 0x2000, sp := 0x2400 }

/-- `start` with A and the flags S, Z, AC, P, CY. -/
def withA (a : Byte) (f : Flags) : State := { start with regs := { start.regs with a := a }, flags := f }

/-- All flags 0. -/
def f0 : Flags := { s := false, z := false, ac := false, p := false, cy := false }

/-- CY alone 1. -/
def fCy : Flags := { f0 with cy := true }

/-- The flags, in the order S, Z, AC, P, CY of the vectors. -/
def fl (s z ac p cy : Bool) : Flags := { s := s, z := z, ac := ac, p := p, cy := cy }

/-- `start` with HL. -/
def withHl (v : Word) : State := { start with regs := { start.regs with h := hiByte v, l := loByte v } }

/-- `start` with SP. -/
def withSp (v : Word) : State := { start with sp := v }

/-- The answer is a next state of which `f` holds. -/
def answers (r : Result) (f : State → Bool) : Bool :=
  match r with
  | .next t => f t
  | _ => false

/-- The answer is the refusal `q`. -/
def refuses (r : Result) (q : Refusal) : Bool :=
  match r with
  | .refused p => decide (p = q)
  | _ => false

/-- What decoding gives, if it gives an instruction. -/
def read (bs : List Byte) : Option (Instr × List Byte) :=
  match decode bs with
  | .ok p => some p
  | .error _ => none

/-! ## Well-formedness (R111, R112) -/

/-- The twelve illegal bytes are refused, each by name, and a documented instruction is not. -/
theorem test_wellformed_refuses_the_twelve :
    [Instr.illegal08, .illegal10, .illegal18, .illegal20, .illegal28, .illegal30, .illegal38, .illegalCB, .illegalD9,
      .illegalDD, .illegalED, .illegalFD].map Instr.wellFormed = List.replicate 12 false := by decide

theorem test_wellformed_accepts : [Instr.nop, .jmp 0xFFFF, .outPort 0xFF, .rst7].map Instr.wellFormed = List.replicate 4 true := by
  decide

/-! ## Decoding

Each row of the opcode map of R109, read from left to right; the operand bytes, where there are any, are 0x34 0x12, so an a16 or
d16 is 0x1234 and a d8 or port is 0x34 (R103). -/

theorem test_decode_row_0 :
    (List.range 16).map (fun k => decodeOp (BitVec.ofNat 8 (0x00 + k)) 0x34 0x12) = [.nop, .lxiB 0x1234, .staxB, .inxB, .inrB, .dcrB, .mviB 0x34, .rlc,
      .illegal08, .dadB, .ldaxB, .dcxB, .inrC, .dcrC, .mviC 0x34, .rrc] := by decide

theorem test_decode_row_1 :
    (List.range 16).map (fun k => decodeOp (BitVec.ofNat 8 (0x10 + k)) 0x34 0x12) = [.illegal10, .lxiD 0x1234, .staxD, .inxD, .inrD, .dcrD, .mviD 0x34, .ral,
      .illegal18, .dadD, .ldaxD, .dcxD, .inrE, .dcrE, .mviE 0x34, .rar] := by decide

theorem test_decode_row_2 :
    (List.range 16).map (fun k => decodeOp (BitVec.ofNat 8 (0x20 + k)) 0x34 0x12) = [.illegal20, .lxiH 0x1234, .shld 0x1234, .inxH, .inrH, .dcrH, .mviH 0x34, .daa,
      .illegal28, .dadH, .lhld 0x1234, .dcxH, .inrL, .dcrL, .mviL 0x34, .cma] := by decide

theorem test_decode_row_3 :
    (List.range 16).map (fun k => decodeOp (BitVec.ofNat 8 (0x30 + k)) 0x34 0x12) = [.illegal30, .lxiSp 0x1234, .sta 0x1234, .inxSp, .inrM, .dcrM, .mviM 0x34, .stc,
      .illegal38, .dadSp, .lda 0x1234, .dcxSp, .inrA, .dcrA, .mviA 0x34, .cmc] := by decide

theorem test_decode_row_4 :
    (List.range 16).map (fun k => decodeOp (BitVec.ofNat 8 (0x40 + k)) 0x34 0x12) = [.movBB, .movBC, .movBD, .movBE, .movBH, .movBL, .movBM, .movBA,
      .movCB, .movCC, .movCD, .movCE, .movCH, .movCL, .movCM, .movCA] := by decide

theorem test_decode_row_5 :
    (List.range 16).map (fun k => decodeOp (BitVec.ofNat 8 (0x50 + k)) 0x34 0x12) = [.movDB, .movDC, .movDD, .movDE, .movDH, .movDL, .movDM, .movDA,
      .movEB, .movEC, .movED, .movEE, .movEH, .movEL, .movEM, .movEA] := by decide

theorem test_decode_row_6 :
    (List.range 16).map (fun k => decodeOp (BitVec.ofNat 8 (0x60 + k)) 0x34 0x12) = [.movHB, .movHC, .movHD, .movHE, .movHH, .movHL, .movHM, .movHA,
      .movLB, .movLC, .movLD, .movLE, .movLH, .movLL, .movLM, .movLA] := by decide

theorem test_decode_row_7 :
    (List.range 16).map (fun k => decodeOp (BitVec.ofNat 8 (0x70 + k)) 0x34 0x12) = [.movMB, .movMC, .movMD, .movME, .movMH, .movML, .hlt, .movMA,
      .movAB, .movAC, .movAD, .movAE, .movAH, .movAL, .movAM, .movAA] := by decide

theorem test_decode_row_8 :
    (List.range 16).map (fun k => decodeOp (BitVec.ofNat 8 (0x80 + k)) 0x34 0x12) = [.addB, .addC, .addD, .addE, .addH, .addL, .addM, .addA,
      .adcB, .adcC, .adcD, .adcE, .adcH, .adcL, .adcM, .adcA] := by decide

theorem test_decode_row_9 :
    (List.range 16).map (fun k => decodeOp (BitVec.ofNat 8 (0x90 + k)) 0x34 0x12) = [.subB, .subC, .subD, .subE, .subH, .subL, .subM, .subA,
      .sbbB, .sbbC, .sbbD, .sbbE, .sbbH, .sbbL, .sbbM, .sbbA] := by decide

theorem test_decode_row_A :
    (List.range 16).map (fun k => decodeOp (BitVec.ofNat 8 (0xA0 + k)) 0x34 0x12) = [.anaB, .anaC, .anaD, .anaE, .anaH, .anaL, .anaM, .anaA,
      .xraB, .xraC, .xraD, .xraE, .xraH, .xraL, .xraM, .xraA] := by decide

theorem test_decode_row_B :
    (List.range 16).map (fun k => decodeOp (BitVec.ofNat 8 (0xB0 + k)) 0x34 0x12) = [.oraB, .oraC, .oraD, .oraE, .oraH, .oraL, .oraM, .oraA,
      .cmpB, .cmpC, .cmpD, .cmpE, .cmpH, .cmpL, .cmpM, .cmpA] := by decide

theorem test_decode_row_C :
    (List.range 16).map (fun k => decodeOp (BitVec.ofNat 8 (0xC0 + k)) 0x34 0x12) = [.rnz, .popB, .jnz 0x1234, .jmp 0x1234, .cnz 0x1234, .pushB, .adi 0x34, .rst0,
      .rz, .ret, .jz 0x1234, .illegalCB, .cz 0x1234, .call 0x1234, .aci 0x34, .rst1] := by decide

theorem test_decode_row_D :
    (List.range 16).map (fun k => decodeOp (BitVec.ofNat 8 (0xD0 + k)) 0x34 0x12) = [.rnc, .popD, .jnc 0x1234, .outPort 0x34, .cnc 0x1234, .pushD, .sui 0x34, .rst2,
      .rc, .illegalD9, .jc 0x1234, .inPort 0x34, .cc 0x1234, .illegalDD, .sbi 0x34, .rst3] := by decide

theorem test_decode_row_E :
    (List.range 16).map (fun k => decodeOp (BitVec.ofNat 8 (0xE0 + k)) 0x34 0x12) = [.rpo, .popH, .jpo 0x1234, .xthl, .cpo 0x1234, .pushH, .ani 0x34, .rst4,
      .rpe, .pchl, .jpe 0x1234, .xchg, .cpe 0x1234, .illegalED, .xri 0x34, .rst5] := by decide

theorem test_decode_row_F :
    (List.range 16).map (fun k => decodeOp (BitVec.ofNat 8 (0xF0 + k)) 0x34 0x12) = [.rp, .popPsw, .jp 0x1234, .di, .cp 0x1234, .pushPsw, .ori 0x34, .rst6,
      .rm, .sphl, .jm 0x1234, .ei, .cm 0x1234, .illegalFD, .cpi 0x34, .rst7] := by decide

/-- Words written out bit by bit from the formats of R102: 01 ddd sss, 00 rp 0001, 00 ddd 110, 10 aaa sss, 11 ccc 100, 11 nnn 111. -/
theorem test_decode_bits :
    read [0b01010111] = some (.movDA, []) ∧ read [0b00110001, 0xFF, 0x23] = some (.lxiSp 0x23FF, []) ∧
    read [0b00100110, 0x80] = some (.mviH 0x80, []) ∧ read [0b10111110] = some (.cmpM, []) ∧
    read [0b11101100, 0xCD, 0xAB] = some (.cpe 0xABCD, []) ∧ read [0b11101111] = some (.rst5, []) := by decide

/-- 01 110 110 is HLT, not a MOV of memory to memory (R105). -/
theorem test_decode_hlt : read [0b01110110] = some (.hlt, []) := by decide

/-- One instruction is read; the bytes after it are left (R100). -/
theorem test_decode_leaves_the_rest : read [0xC6, 0x0F, 0x76] = some (.adi 0x0F, [0x76]) := by decide

/-- Only missing bytes are refused. -/
theorem test_decode_missing : read [] = none ∧ read [0xC3, 0x34] = none ∧ read [0x3E] = none := by decide

/-- decodeTableWord reads a table row's own bits, the operand bits above them 0. -/
theorem test_table_word :
    decodeTableWord 8 0x80 = some .addB ∧ decodeTableWord 24 0x1234C3 = some (.jmp 0x1234) ∧ decodeTableWord 8 0xC3 = some (.jmp 0) ∧
    decodeTableWord 16 0x07D3 = some (.outPort 7) := by decide

/-- The word placed by withFetchWord is what the first step after reset runs: V-BR-1. -/
theorem test_fetch_word : answers (step (State.reset.withFetchWord 24 0x1234C3)) (fun t => t.pc = 0x1234) = true := by decide

/-- An instruction at the top of the address space is fetched across the wrap: V-BR-11. -/
theorem test_fetch_wraps :
    answers (step { start with pc := 0xFFFE, mem := [(0, 0x12), (0xFFFE, 0xC3), (0xFFFF, 0x34)] }) (fun t => t.pc = 0x1234) = true := by
  decide

/-! ## Single instructions -/

/-- V-DT-1. -/
theorem test_mov_reg : answers (exec .movBC { start with regs := { start.regs with c := 0x5A, b := 0x11 } })
    (fun t => t.regs.b = 0x5A ∧ t.regs.c = 0x5A ∧ t.pc = 0x2001 ∧ t.out.cycles = some 5) = true := by decide

/-- V-DT-3. -/
theorem test_mov_mem_store : answers (exec .movMA { withHl 0x2400 with regs := { (withHl 0x2400).regs with a := 0x77 } })
    (fun t => t.readByte 0x2400 = 0x77 ∧ t.pc = 0x2001) = true := by decide

/-- V-DT-4. -/
theorem test_mov_mem_load : answers (exec .movAM { withHl 0x1234 with mem := [(0x1234, 0x9C)] })
    (fun t => t.regs.a = 0x9C) = true := by decide

/-- V-DT-5. -/
theorem test_mov_rom_stops : answers (exec .movMA { withHl 0x1FFF with regs := { (withHl 0x1FFF).regs with a := 0x55 } })
    (fun t => t.fault = some (.writeProtectionViolation 0x1FFF 0x55 0x2000) ∧ t.pc = 0x2001 ∧ t.mem = [] ∧ t.out.cycles = none) = true := by decide

/-- V-DT-7. -/
theorem test_mvi : answers (exec (.mviA 0xFF) start)
    (fun t => t.regs.a = 0xFF ∧ t.pc = 0x2002) = true := by decide

/-- V-DT-6. -/
theorem test_mvi_m : answers (exec (.mviM 0x42) (withHl 0x3FFF))
    (fun t => t.readByte 0x3FFF = 0x42 ∧ t.out.cycles = some 10) = true := by decide

/-- V-DT-8. -/
theorem test_lxi_sp : answers (exec (.lxiSp 0x2400) (withSp 0))
    (fun t => t.sp = 0x2400 ∧ t.pc = 0x2003) = true := by decide

/-- V-DT-9. -/
theorem test_lxi_h : answers (exec (.lxiH 0xABCD) start)
    (fun t => t.regs.h = 0xAB ∧ t.regs.l = 0xCD) = true := by decide

/-- V-DT-10. -/
theorem test_lda : answers (exec (.lda 0x2010) { start with mem := [(0x2010, 0xA5)] })
    (fun t => t.regs.a = 0xA5 ∧ t.out.cycles = some 13) = true := by decide

/-- V-DT-11. -/
theorem test_sta : answers (exec (.sta 0x2011) (withA 0x5A f0))
    (fun t => t.mem = [(0x2011, 0x5A)]) = true := by decide

/-- V-DT-12. -/
theorem test_sta_rom : answers (exec (.sta 0x0000) (withA 0x5A f0))
    (fun t => t.fault = some (.writeProtectionViolation 0 0x5A 0x2000) ∧ t.pc = 0x2003) = true := by decide

/-- V-DT-13. -/
theorem test_lhld : answers (exec (.lhld 0x20FE) { start with mem := [(0x20FE, 0x34), (0x20FF, 0x12)] })
    (fun t => t.regs.h = 0x12 ∧ t.regs.l = 0x34) = true := by decide

/-- V-DT-14. -/
theorem test_lhld_wraps : answers (exec (.lhld 0xFFFF) { start with mem := [(0, 0x56), (0xFFFF, 0x78)] })
    (fun t => t.regs.h = 0x56 ∧ t.regs.l = 0x78) = true := by decide

/-- V-DT-15. -/
theorem test_shld : answers (exec (.shld 0x2100) (withHl 0x1234))
    (fun t => t.mem = [(0x2100, 0x34), (0x2101, 0x12)]) = true := by decide

/-- V-DT-16. -/
theorem test_shld_wraps_into_rom : answers (exec (.shld 0xFFFF) (withHl 0x1234))
    (fun t => t.mem = [(0xFFFF, 0x34)] ∧ t.fault = some (.writeProtectionViolation 0 0x12 0x2000)) = true := by decide

/-- V-DT-18. -/
theorem test_ldax : answers (exec .ldaxD { start with regs := { start.regs with e := 5 }, mem := [(5, 0xC3)] })
    (fun t => t.regs.a = 0xC3) = true := by decide

/-- V-DT-19. -/
theorem test_stax : answers (exec .staxB { start with regs := { start.regs with a := 0x99, b := 0x23 } })
    (fun t => t.mem = [(0x2300, 0x99)]) = true := by decide

/-- V-DT-20. -/
theorem test_stax_rom : answers (exec .staxD { start with regs := { start.regs with a := 0x99, d := 0x10 } })
    (fun t => t.fault = some (.writeProtectionViolation 0x1000 0x99 0x2000)) = true := by decide

/-- V-DT-21. -/
theorem test_xchg : answers (exec .xchg { start with regs := { start.regs with d := 0x11, e := 0x22, h := 0x33, l := 0x44 } })
    (fun t => t.regs = { start.regs with d := 0x33, e := 0x44, h := 0x11, l := 0x22 }) = true := by decide

/-- S4, V-AR-1. -/
theorem test_add : answers (exec .addB { start with regs := { start.regs with a := 0x3C, b := 1 } })
    (fun t => t.regs.a = 0x3D ∧ t.flags = f0) = true := by decide

/-- V-AR-2. -/
theorem test_add_wraps : answers (exec .addB { start with regs := { start.regs with a := 0xFF, b := 1 } })
    (fun t => t.regs.a = 0 ∧ t.flags = fl false true true true true) = true := by decide

/-- V-AR-4. -/
theorem test_add_self : answers (exec .addA (withA 0x80 f0))
    (fun t => t.regs.a = 0 ∧ t.flags = fl false true false true true) = true := by decide

/-- V-AR-5. -/
theorem test_add_m : answers (exec .addM { withHl 0x2400 with mem := [(0x2400, 0x22)], regs := { (withHl 0x2400).regs with a := 0x11 } })
    (fun t => t.regs.a = 0x33 ∧ t.out.cycles = some 7) = true := by decide

/-- V-AR-6. -/
theorem test_adi : answers (exec (.adi 0x0F) (withA 1 fCy))
    (fun t => t.regs.a = 0x10 ∧ t.flags = fl false false true false false) = true := by decide

/-- V-AR-7. -/
theorem test_adc : answers (exec .adcB (withA 0xFF fCy))
    (fun t => t.regs.a = 0 ∧ t.flags = fl false true true true true) = true := by decide

/-- V-AR-10. -/
theorem test_aci : answers (exec (.aci 0) (withA 0x7F fCy))
    (fun t => t.regs.a = 0x80 ∧ t.flags = fl true false true false false) = true := by decide

/-- S5, V-AR-11. -/
theorem test_sub_self : answers (exec .subA start)
    (fun t => t.regs.a = 0 ∧ t.flags = fl false true true true false) = true := by decide

/-- V-AR-12. -/
theorem test_sub_borrows : answers (exec .subB { start with regs := { start.regs with b := 1 } })
    (fun t => t.regs.a = 0xFF ∧ t.flags = fl true false false true true) = true := by decide

/-- V-AR-16. -/
theorem test_sui : answers (exec (.sui 1) (withA 2 f0))
    (fun t => t.regs.a = 1 ∧ t.flags = fl false false true false false) = true := by decide

/-- V-AR-17. -/
theorem test_sbb : answers (exec .sbbB (withA 0 fCy))
    (fun t => t.regs.a = 0xFF ∧ t.flags = fl true false false true true) = true := by decide

/-- V-AR-20. -/
theorem test_sbb_self : answers (exec .sbbA (withA 0x42 f0))
    (fun t => t.regs.a = 0 ∧ t.flags = fl false true true true false) = true := by decide

/-- V-AR-21. -/
theorem test_sbi : answers (exec (.sbi 0xFF) (withA 0 fCy))
    (fun t => t.regs.a = 0 ∧ t.flags = fl false true false true true) = true := by decide

/-- V-AR-22. -/
theorem test_cmp : answers (exec .cmpB { start with regs := { start.regs with a := 5, b := 0x0A } })
    (fun t => t.regs.a = 5 ∧ t.flags = fl true false false false true) = true := by decide

/-- V-AR-27. -/
theorem test_cmp_m : answers (exec .cmpM { withHl 0x2400 with mem := [(0x2400, 1)] })
    (fun t => t.regs.a = 0 ∧ t.flags = fl true false false true true) = true := by decide

/-- V-AR-26. -/
theorem test_cpi : answers (exec (.cpi 0x40) (withA 0x40 fCy))
    (fun t => t.regs.a = 0x40 ∧ t.flags = fl false true true true false) = true := by decide

/-- V-LG-1. -/
theorem test_ana : answers (exec .anaB { start with regs := { start.regs with a := 0xFC, b := 0x0F }, flags := fl false false true false true })
    (fun t => t.regs.a = 0x0C ∧ t.flags = fl false false false true false) = true := by decide

/-- V-LG-3. -/
theorem test_ani : answers (exec (.ani 0x80) (withA 0x81 f0))
    (fun t => t.regs.a = 0x80 ∧ t.flags = fl true false false false false) = true := by decide

/-- V-LG-4. -/
theorem test_xra : answers (exec .xraA (withA 0x5A fCy))
    (fun t => t.regs.a = 0 ∧ t.flags = fl false true false true false) = true := by decide

/-- V-LG-6. -/
theorem test_xri : answers (exec (.xri 0xFF) (withA 0x0F f0))
    (fun t => t.regs.a = 0xF0 ∧ t.flags = fl true false false true false) = true := by decide

/-- V-LG-8. -/
theorem test_ora_m : answers (exec .oraM { withHl 0x2400 with mem := [(0x2400, 0x0C)], regs := { (withHl 0x2400).regs with a := 0x30 } })
    (fun t => t.regs.a = 0x3C ∧ t.flags = fl false false false true false) = true := by decide

/-- V-LG-9. -/
theorem test_ori : answers (exec (.ori 1) (withA 0x80 f0))
    (fun t => t.regs.a = 0x81 ∧ t.flags = fl true false false true false) = true := by decide

/-- V-ID-1. -/
theorem test_inr : answers (exec .inrA (withA 0xFF fCy))
    (fun t => t.regs.a = 0 ∧ t.flags = fl false true true true true) = true := by decide

/-- V-ID-4. -/
theorem test_inr_m : answers (exec .inrM { withHl 0x2400 with mem := [(0x2400, 0x41)] })
    (fun t => t.mem = [(0x2400, 0x42)] ∧ t.flags = fl false false false true false) = true := by decide

/-- V-ID-5. -/
theorem test_inr_m_rom : answers (exec .inrM { withHl 0x0100 with mem := [(0x0100, 0x41)] })
    (fun t => t.fault = some (.writeProtectionViolation 0x0100 0x42 0x2000) ∧ t.flags = f0) = true := by decide

/-- V-ID-6. -/
theorem test_dcr : answers (exec .dcrA start)
    (fun t => t.regs.a = 0xFF ∧ t.flags = fl true false false true false) = true := by decide

/-- V-ID-9. -/
theorem test_dcr_m : answers (exec .dcrM { withHl 0x2400 with mem := [(0x2400, 0x80)] })
    (fun t => t.mem = [(0x2400, 0x7F)] ∧ t.flags = f0) = true := by decide

/-- V-ID-10. -/
theorem test_inx : answers (exec .inxB { start with regs := { start.regs with b := 0xFF, c := 0xFF } })
    (fun t => t.regs = start.regs ∧ t.flags = f0) = true := by decide

/-- V-ID-11. -/
theorem test_inx_sp : answers (exec .inxSp (withSp 0x23FF))
    (fun t => t.sp = 0x2400) = true := by decide

/-- V-ID-12. -/
theorem test_dcx : answers (exec .dcxD start)
    (fun t => t.regs.d = 0xFF ∧ t.regs.e = 0xFF) = true := by decide

/-- V-ID-13. -/
theorem test_dcx_sp : answers (exec .dcxSp (withSp 0))
    (fun t => t.sp = 0xFFFF) = true := by decide

/-- V-DAD-1. -/
theorem test_dad : answers (exec .dadB { withHl 0xFFFF with regs := { (withHl 0xFFFF).regs with c := 1 } })
    (fun t => t.hl = 0 ∧ t.flags = fCy) = true := by decide

/-- V-DAD-5. -/
theorem test_dad_sp : answers (exec .dadSp (withHl 1))
    (fun t => t.hl = 0x2401 ∧ t.flags = f0) = true := by decide

/-- S9, V-DAA-1. -/
theorem test_daa : answers (exec .daa (withA 0x9B f0))
    (fun t => t.regs.a = 1 ∧ t.flags = fl false false true false true) = true := by decide

/-- V-DAA-3, C7. -/
theorem test_daa_widened : answers (exec .daa (withA 0xFA f0))
    (fun t => t.regs.a = 0x60 ∧ t.flags = fl false false true true true) = true := by decide

/-- V-RF-1. -/
theorem test_rlc : answers (exec .rlc (withA 0x85 f0))
    (fun t => t.regs.a = 0x0B ∧ t.flags = fCy) = true := by decide

/-- V-RF-4. -/
theorem test_rrc : answers (exec .rrc (withA 0x01 f0))
    (fun t => t.regs.a = 0x80 ∧ t.flags = fCy) = true := by decide

/-- V-RF-6. -/
theorem test_ral : answers (exec .ral (withA 0x00 fCy))
    (fun t => t.regs.a = 1 ∧ t.flags = f0) = true := by decide

/-- V-RF-7. -/
theorem test_rar : answers (exec .rar (withA 0x6A fCy))
    (fun t => t.regs.a = 0xB5 ∧ t.flags = f0) = true := by decide

/-- V-RF-9. -/
theorem test_cma : answers (exec .cma (withA 0x51 f0))
    (fun t => t.regs.a = 0xAE ∧ t.flags = f0) = true := by decide

/-- V-RF-10. -/
theorem test_stc : answers (exec .stc start)
    (fun t => t.flags = fCy) = true := by decide

/-- V-RF-12. -/
theorem test_cmc : answers (exec .cmc (withA 0 fCy))
    (fun t => t.flags = f0) = true := by decide

/-- V-BR-1. -/
theorem test_jmp : answers (exec (.jmp 0x1234) start)
    (fun t => t.pc = 0x1234) = true := by decide

/-- V-BR-3. -/
theorem test_jnz_taken : answers (exec (.jnz 0x1234) start)
    (fun t => t.pc = 0x1234 ∧ t.out.cycles = some 10) = true := by decide

/-- V-BR-4. -/
theorem test_jz_not_taken : answers (exec (.jz 0x1234) start)
    (fun t => t.pc = 0x2003 ∧ t.out.cycles = some 10) = true := by decide

/-- V-BR-12. -/
theorem test_call : answers (exec (.call 0x0200) { start with pc := 0x0100 })
    (fun t => t.pc = 0x0200 ∧ t.sp = 0x23FE ∧ t.mem = [(0x23FE, 3), (0x23FF, 1)]) = true := by decide

/-- V-BR-26. -/
theorem test_call_stops : answers (exec (.call 0x3000) (withSp 0x2001))
    (fun t => t.pc = 0x2003 ∧ t.sp = 0x2001 ∧ t.mem = [(0x2000, 0x20)] ∧ t.fault = some (.writeProtectionViolation 0x1FFF 3 0x2000)) = true := by decide

/-- V-BR-13. -/
theorem test_ret : answers (exec .ret { start with sp := 0x23FE, mem := [(0x23FE, 3), (0x23FF, 1)] })
    (fun t => t.pc = 0x0103 ∧ t.sp = 0x2400) = true := by decide

/-- V-BR-14. -/
theorem test_cnz_not_taken : answers (exec (.cnz 0x3000) { start with flags := fl false true false false false })
    (fun t => t.pc = 0x2003 ∧ t.sp = 0x2400 ∧ t.out.cycles = some 11) = true := by decide

/-- V-BR-17. -/
theorem test_cpe_taken : answers (exec (.cpe 0x3000) { start with flags := fl false false false true false })
    (fun t => t.pc = 0x3000 ∧ t.mem = [(0x23FE, 3), (0x23FF, 0x20)] ∧ t.out.cycles = some 17) = true := by decide

/-- V-BR-20. -/
theorem test_rz_taken : answers (exec .rz { start with sp := 0x23FE, flags := fl false true false false false, mem := [(0x23FE, 3), (0x23FF, 1)] })
    (fun t => t.pc = 0x0103 ∧ t.out.cycles = some 11) = true := by decide

/-- V-BR-21. -/
theorem test_rm_not_taken : answers (exec .rm (withSp 0x23FE))
    (fun t => t.pc = 0x2001 ∧ t.sp = 0x23FE ∧ t.out.cycles = some 5) = true := by decide

/-- V-BR-22. -/
theorem test_rst : answers (exec .rst7 { start with pc := 0x2100 })
    (fun t => t.pc = 0x0038 ∧ t.mem = [(0x23FE, 1), (0x23FF, 0x21)]) = true := by decide

/-- V-BR-25. -/
theorem test_pchl : answers (exec .pchl (withHl 0x1A2B))
    (fun t => t.pc = 0x1A2B) = true := by decide

/-- V-ST-4. -/
theorem test_push_wraps : answers (exec .pushH { withHl 0xBEEF with sp := 0 })
    (fun t => t.sp = 0xFFFE ∧ t.mem = [(0xFFFE, 0xEF), (0xFFFF, 0xBE)]) = true := by decide

/-- V-ST-2. -/
theorem test_push_stops : answers (exec .pushD { start with regs := { start.regs with d := 0xBE, e := 0xEF }, sp := 0x2001 })
    (fun t => t.mem = [(0x2000, 0xBE)] ∧ t.fault = some (.writeProtectionViolation 0x1FFF 0xEF 0x2000)) = true := by decide

/-- V-ST-5. -/
theorem test_push_psw : answers (exec .pushPsw (withA 0x3D (fl false true true true true)))
    (fun t => t.mem = [(0x23FE, 0x57), (0x23FF, 0x3D)]) = true := by decide

/-- V-ST-8. -/
theorem test_pop : answers (exec .popH { start with sp := 0xFFFF, mem := [(0, 0x56), (0xFFFF, 0x78)] })
    (fun t => t.hl = 0x5678 ∧ t.sp = 1) = true := by decide

/-- V-ST-9. -/
theorem test_pop_psw : answers (exec .popPsw { start with sp := 0x23FE, mem := [(0x23FE, 0xFF), (0x23FF, 0x3D)] })
    (fun t => t.regs.a = 0x3D ∧ t.flags = fl true true true true true) = true := by decide

/-- V-ST-11. -/
theorem test_xthl : answers (exec .xthl { withHl 0x1234 with sp := 0x23FE, mem := [(0x23FE, 0xCD), (0x23FF, 0xAB)] })
    (fun t => t.hl = 0xABCD ∧ t.sp = 0x23FE ∧ t.mem = [(0x23FE, 0x34), (0x23FF, 0x12)]) = true := by decide

/-- V-ST-13. -/
theorem test_sphl : answers (exec .sphl (withHl 0x3FFE))
    (fun t => t.sp = 0x3FFE) = true := by decide

/-- V-IO-1. -/
theorem test_in_snapshot : answers (exec (.inPort 0) { start with inSnap := [(0, 0x0F)] })
    (fun t => t.regs.a = 0x0F) = true := by decide

/-- S7, V-IO-2. -/
theorem test_in_shift : answers (exec (.inPort 3) { start with shift := 0xFF00, shiftOff := 3, inSnap := [(3, 0x55)] })
    (fun t => t.regs.a = 0xF8) = true := by decide

/-- V-IO-5. -/
theorem test_out_offset : answers (exec (.outPort 2) (withA 0xFF f0))
    (fun t => t.shiftOff = 7) = true := by decide

/-- V-IO-6. -/
theorem test_out_shift : answers (exec (.outPort 4) { start with regs := { start.regs with a := 0xAB }, shift := 0x1234 })
    (fun t => t.shift = 0xAB12) = true := by decide

/-- V-IO-7. -/
theorem test_out_sound : answers (exec (.outPort 3) (withA 5 f0))
    (fun t => t.out = { cycles := some 10, events := [.sound 3 5] }) = true := by decide

/-- V-IO-9, V-RS-2: what the draws do not touch. -/
theorem test_out_reset : answers (exec (.outPort 6) { start with ie := true, shift := 0x1234 })
    (fun t => t.pc = 0 ∧ t.ie = false ∧ t.shift = 0x1234 ∧ t.out.events = [.resetRequest]) = true := by decide

/-- V-IO-10. -/
theorem test_out_latch : answers (exec (.outPort 7) (withA 0x99 f0))
    (fun t => t.outLatch = [(7, 0x99)]) = true := by decide

/-- V-MC-1. -/
theorem test_nop : answers (exec .nop start)
    (fun t => t = { start with pc := 0x2001, out := { cycles := some 4, events := [] } }) = true := by decide

/-- V-MC-2. -/
theorem test_ei : answers (exec .ei start)
    (fun t => t.ie = true ∧ t.pc = 0x2001) = true := by decide

/-- V-MC-4. -/
theorem test_di : answers (exec .di { start with ie := true })
    (fun t => t.ie = false) = true := by decide

/-- V-MC-5. -/
theorem test_hlt : answers (exec .hlt { start with pc := 0x0100 })
    (fun t => t.pc = 0x0101 ∧ t.halt = true ∧ t.out.cycles = some 7) = true := by decide

/-- V-UO-8. -/
theorem test_illegal : answers (exec .illegalCB start)
    (fun t => t = { start with fault := some (.unknownOpcode 0xCB 0x2000) }) = true := by decide

/-- V-MC-6, but for the cycle count, a parameter (log 8). -/
theorem test_halted_step : answers (step { start with halt := true })
    (fun t => t.out.events = [] ∧ { t with out := Output.nothing } = { start with halt := true }) = true := by decide

/-! ## Host calls -/

/-- V-IRQ-2. -/
theorem test_irq_accepted : answers (hostCall (.raise 1) { start with pc := 0x2050, ie := true })
    (fun t => t = { start with pc := 8, sp := 0x23FE, mem := [(0x23FE, 0x50), (0x23FF, 0x20)] }) = true := by decide

/-- V-IRQ-1. -/
theorem test_irq_ignored : answers (hostCall (.raise 1) { start with pc := 0x2050 })
    (fun t => t = { start with pc := 0x2050 }) = true := by decide

/-- V-IRQ-7. -/
theorem test_irq_wakes : answers (hostCall (.raise 2) { start with pc := 0x0101, ie := true, halt := true })
    (fun t => t.pc = 0x0010 ∧ t.ie = false ∧ t.halt = false ∧ t.mem = [(0x23FE, 1), (0x23FF, 1)]) = true := by decide

/-- V-IRQ-9. -/
theorem test_irq_stops : answers (hostCall (.raise 0) { start with pc := 0x2050, sp := 0x2001, ie := true })
    (fun t => t = { start with pc := 0x2050, sp := 0x2001, ie := true, mem := [(0x2000, 0x20)], fault := some (.writeProtectionViolation 0x1FFF 0x50 0x2050) }) = true := by decide

/-- V-IRQ-6. -/
theorem test_irq_refused : refuses (hostCall (.raise 8) { start with ie := true }) (.vectorOutOfRange 8) = true := by decide

/-- V-IRQ-12. -/
theorem test_set_ie : answers (hostCall (.setInterruptsEnabled true) start)
    (fun t => t = { start with ie := true }) = true := by decide

/-- V-HM-8. -/
theorem test_set_port : answers (hostCall (.setInputPort 1 8) start)
    (fun t => answers (exec (.inPort 1) t) fun u => u.regs.a = 8) = true := by decide

/-- V-HM-2. -/
theorem test_load_image : answers (hostCall (.loadImage [0xC3] 0x1FFF) start)
    (fun t => t.mem = [(0x1FFF, 0xC3)]) = true := by decide

/-- V-HM-3. -/
theorem test_load_image_too_large : answers (hostCall (.loadImage [1, 2] 0x1FFF) start)
    (fun t => t = { start with fault := some (.imageTooLarge 0x1FFF 2) }) = true := by decide

/-- V-HM-4. -/
theorem test_load_image_empty : answers (hostCall (.loadImage [] 0x2000) start)
    (fun t => t = start) = true := by decide

/-- S6-c: what STA wrote, the host reads. -/
theorem test_read_memory : answers (exec (.sta 0x2000) (withA 0xA5 f0))
    (fun t => hostReply (.readMemory 0x2000) t t = .byte 0xA5) = true := by decide

/-- P5, from its STA on: the error is answered once, every later call is a no-op with no output, and FAULT can still be read. -/
theorem test_stopped_run : runReplies [.execute, .execute, .raise 1, .readFault]
    { start with ie := true, regs := { start.regs with a := 1 }, mem := [(0x2000, 0x32), (0x2002, 0x10)] } =
    [.raised (.writeProtectionViolation 0x1000 1 0x2000), .nothing, .nothing,
      .faultRecord (some (.writeProtectionViolation 0x1000 1 0x2000))] := by decide

/-- V-HM-3: what load_image answers when the image is too large. -/
theorem test_load_image_reply : runReplies [.loadImage [1, 2] 0x1FFF] start = [.raised (.imageTooLarge 0x1FFF 2)] := by decide

/-! ## Witnesses: for every obligation with hypotheses, states and operands that meet them, at the ends of each clause's range -/

theorem test_witness_EncodeOfDecodeGivesTheBytesBack :
    decode [0x11, 0x34, 0x12, 0x76] = .ok (.lxiD 0x1234, [0x76]) := rfl

theorem test_witness_StepRunsTheDecodedInstruction :
    let s : State := { start with mem := [(0x2000, 0xC3), (0x2001, 0x34), (0x2002, 0x12)] }
    Running s ∧ decode [s.readByte s.pc, s.readByte (s.pc + 1), s.readByte (s.pc + 2)] = .ok (.jmp 0x1234, []) := ⟨⟨rfl, rfl⟩, rfl⟩

theorem test_witness_IllegalByteRaisesUnknownOpcode :
    Instr.illegalFD.isIllegal = true ∧ Running { start with mem := [(0x2000, 0xFD)] } ∧
      { start with mem := [(0x2000, 0xFD)] }.readByte 0x2000 = 0xFD := ⟨rfl, ⟨rfl, rfl⟩, rfl⟩

theorem test_witness_HaltedStepOnlyReportsIdleCycles :
    { start with halt := true }.fault = none ∧ { start with halt := true }.halt = true := by decide

theorem test_witness_StoppedCoreMakesNoMove :
    { start with fault := some (.unknownOpcode 8 0) }.fault = some (.unknownOpcode 8 0) ∧
      HostCall.raise 1 ≠ .execute := by decide

theorem test_witness_MovRegisterToMemory :
    Memory.wf (withHl 0x2000).mem = true ∧ 0x1FFF < (withHl 0x2000).hl.toNat ∧ (withHl 0x1FFF).hl.toNat ≤ 0x1FFF ∧
      Memory.wf (withHl 0x1FFF).mem = true := by decide

theorem test_witness_MviLoadsTheImmediate :
    Memory.wf (withHl 0x2000).mem = true ∧ 0x1FFF < (withHl 0x2000).hl.toNat ∧ (withHl 0x1FFF).hl.toNat ≤ 0x1FFF ∧
      Memory.wf (withHl 0x1FFF).mem = true := by decide

theorem test_witness_StaAndStaxStoreA :
    Memory.wf start.mem = true ∧ 0x1FFF < (0x2000 : Word).toNat ∧ (0x1FFF : Word).toNat ≤ 0x1FFF ∧
      0x1FFF < { start with regs := { start.regs with b := 0x20 } }.bc.toNat ∧ start.bc.toNat ≤ 0x1FFF ∧
      0x1FFF < { start with regs := { start.regs with d := 0x20 } }.de.toNat ∧ start.de.toNat ≤ 0x1FFF := by decide

theorem test_witness_ShldStoresHl :
    Memory.wf start.mem = true ∧ (0x1FFF < (0x2000 : Word).toNat ∧ 0x1FFF < ((0x2000 : Word) + 1).toNat) ∧
      (0x1FFF : Word).toNat ≤ 0x1FFF ∧ (0x1FFF < (0xFFFF : Word).toNat ∧ ((0xFFFF : Word) + 1).toNat ≤ 0x1FFF) := by decide

theorem test_witness_InrAndDcrOfMemory :
    Memory.wf (withHl 0x2000).mem = true ∧ 0x1FFF < (withHl 0x2000).hl.toNat ∧ (withHl 0x1FFF).hl.toNat ≤ 0x1FFF ∧
      Memory.wf (withHl 0x1FFF).mem = true := by decide

theorem test_witness_DaaAdjustsInTwoAdditions :
    let s := withA 0x9B f0
    (0x06 : Nat) = (if 9 < s.regs.a.toNat % 16 ∨ s.flags.ac = true then 0x06 else 0) ∧
      (0x60 : Nat) = (if 9 < (s.regs.a.toNat + 0x06) / 16 ∨ s.flags.cy = true then 0x60 else 0) := by decide

theorem test_witness_DaaAfterAddGivesPackedBcd :
    let s : State := { start with regs := { start.regs with a := 0x99, b := 0x99 } }
    isBcd s.regs.a ∧ isBcd s.regs.b := ⟨⟨by decide, by decide⟩, ⟨by decide, by decide⟩⟩

theorem test_witness_CallAndRstPushNext :
    (∃ s : State, Memory.wf s.mem = true ∧ StackInRam s ∧ s.sp = 0x2002) ∧ (∃ s : State, StackInRam s ∧ s.sp = 0) ∧
      ((withSp 0x2000).sp - 1).toNat ≤ 0x1FFF ∧
      (0x1FFF < ((withSp 0x2001).sp - 1).toNat ∧ ((withSp 0x2001).sp - 2).toNat ≤ 0x1FFF) := ⟨⟨withSp 0x2002, rfl, ⟨by decide, by decide⟩, rfl⟩, ⟨withSp 0, ⟨by decide, by decide⟩, rfl⟩, by decide, by decide, by decide⟩

theorem test_witness_ConditionalCall :
    start.flags.cond .z = false ∧ start.flags.cond .nz = true ∧ Memory.wf start.mem = true ∧ StackInRam start := ⟨rfl, rfl, rfl, by decide, by decide⟩

theorem test_witness_ConditionalCall_stack :
    (∃ s : State, Memory.wf s.mem = true ∧ StackInRam s ∧ s.sp = 0x2002) ∧ (∃ s : State, StackInRam s ∧ s.sp = 0) ∧
      ((withSp 0x2000).sp - 1).toNat ≤ 0x1FFF ∧
      (0x1FFF < ((withSp 0x2001).sp - 1).toNat ∧ ((withSp 0x2001).sp - 2).toNat ≤ 0x1FFF) := ⟨⟨withSp 0x2002, rfl, ⟨by decide, by decide⟩, rfl⟩, ⟨withSp 0, ⟨by decide, by decide⟩, rfl⟩, by decide, by decide, by decide⟩

theorem test_witness_ReturnsPopPc :
    start.flags.cond .c = false ∧ start.flags.cond .nc = true := by decide

theorem test_witness_CallThenRetComesBack :
    Memory.wf (withSp 0).mem = true ∧ StackInRam (withSp 0) := ⟨rfl, by decide, by decide⟩

theorem test_witness_PushStoresThePair :
    (∃ s : State, Memory.wf s.mem = true ∧ StackInRam s ∧ s.sp = 0x2002) ∧ (∃ s : State, StackInRam s ∧ s.sp = 0) ∧
      ((withSp 0x2000).sp - 1).toNat ≤ 0x1FFF ∧
      (0x1FFF < ((withSp 0x2001).sp - 1).toNat ∧ ((withSp 0x2001).sp - 2).toNat ≤ 0x1FFF) := ⟨⟨withSp 0x2002, rfl, ⟨by decide, by decide⟩, rfl⟩, ⟨withSp 0, ⟨by decide, by decide⟩, rfl⟩, by decide, by decide, by decide⟩

theorem test_witness_PushThenPopRestores :
    Memory.wf (withSp 0x2002).mem = true ∧ StackInRam (withSp 0x2002) := ⟨rfl, by decide, by decide⟩

theorem test_witness_XthlExchangesWithTheStack :
    Memory.wf start.mem = true ∧ (0x1FFF < (withSp 0x2000).sp.toNat ∧ 0x1FFF < ((withSp 0x2000).sp + 1).toNat) ∧
      (withSp 0x1FFF).sp.toNat ≤ 0x1FFF ∧ (0x1FFF < (withSp 0xFFFF).sp.toNat ∧ ((withSp 0xFFFF).sp + 1).toNat ≤ 0x1FFF) := by decide

theorem test_witness_InReadsThePort :
    (3 : Byte) = 3 ∧ (2 : Byte) ≠ 3 ∧ (4 : Byte) ≠ 3 := by decide

theorem test_witness_OutSoundsAndLatches :
    Ports.wf start.outLatch = true ∧ ((3 : Byte) = 3 ∨ (3 : Byte) = 5) ∧ ((5 : Byte) = 3 ∨ (5 : Byte) = 5) ∧
      (1 : Byte) ∉ ([2, 3, 4, 5, 6] : List Byte) ∧ (7 : Byte) ∉ ([2, 3, 4, 5, 6] : List Byte) := by decide

theorem test_witness_AcceptedInterruptVectors :
    let s : State := { withSp 0x2002 with ie := true }
    s.fault = none ∧ (7 : Byte).toNat ≤ 7 ∧ s.ie = true ∧ Memory.wf s.mem = true ∧ StackInRam s := ⟨rfl, by decide, rfl, rfl, by decide, by decide⟩

theorem test_witness_AcceptedInterruptVectors_stops :
    ((withSp 0x2000).sp - 1).toNat ≤ 0x1FFF ∧
      (0x1FFF < ((withSp 0x2001).sp - 1).toNat ∧ ((withSp 0x2001).sp - 2).toNat ≤ 0x1FFF) := by decide

theorem test_witness_IgnoredAndRefusedInterrupts :
    start.fault = none ∧ ((7 : Byte).toNat ≤ 7 ∧ start.ie = false) ∧ 7 < (8 : Byte).toNat := by decide

theorem test_witness_HostSetsIeAndSnapshots :
    start.fault = none ∧ Ports.wf start.inSnap = true ∧ (2 : Byte) ≠ 3 := by decide

theorem test_witness_LoadImageIsAllOrNothing :
    start.fault = none ∧ Memory.wf start.mem = true ∧ (0x1FFF : Word).toNat + [(0xC3 : Byte)].length ≤ 0x2000 ∧
      (0x2000 : Word).toNat + ([] : List Byte).length ≤ 0x2000 ∧ 0x2000 < (0x1FFF : Word).toNat + [(1 : Byte), 2].length := by decide

theorem test_witness_LoadImageIsAllOrNothing_addresses :
    (0 < [(0xC3 : Byte)].length) ∧
      (0x1FFE < (0x1FFF : Word).toNat ∨ (0x1FFF : Word).toNat + [(0xC3 : Byte)].length ≤ 0x1FFE) := by decide

theorem test_witness_EveryCallKeepsCanonicalForm :
    start.wf = true ∧ (∃ t, step start = .next t) ∧ ∃ t, hostCall (.loadImage [0xC3] 0x1FFF) start = .next t := ⟨rfl, ⟨_, rfl⟩, ⟨_, rfl⟩⟩

theorem test_witness_NoStepChangesRom :
    (∃ t, step { start with mem := [(0x2000, 0x32), (0x2002, 0x20)] } = .next t) ∧
      (∃ t, hostCall (.raise 1) { start with ie := true } = .next t) ∧
      (∀ bytes origin, HostCall.raise 1 ≠ .loadImage bytes origin) ∧ (0x1FFF : Word).toNat ≤ 0x1FFF := ⟨⟨_, rfl⟩, ⟨_, rfl⟩, nofun, by decide⟩

theorem test_witness_EiThenInterruptThenRet :
    start.fault = none ∧ (7 : Byte).toNat ≤ 7 ∧ Memory.wf (withSp 0x2002).mem = true ∧ StackInRam (withSp 0x2002) := ⟨rfl, by decide, rfl, by decide, by decide⟩

theorem test_witness_HostCallsKeepToTheirRow :
    HostCall.raise 1 ≠ .execute ∧
      answers (hostCall (.raise 1) { start with ie := true }) (fun t => t.pc ≠ start.pc ∧ t.ie ≠ true ∧ t.mem ≠ start.mem) = true ∧
      answers (hostCall (.raise 1) { start with ie := true, sp := 0x2000 }) (fun t => t.fault ≠ start.fault) = true ∧
      answers (hostCall (.setInterruptsEnabled true) start) (fun t => t.ie ≠ start.ie) = true ∧
      answers (hostCall (.setInputPort 0 1) start) (fun t => t.inSnap ≠ start.inSnap) = true ∧
      answers (hostCall (.loadImage [1] 0) start) (fun t => t.mem ≠ start.mem) = true ∧
      answers (hostCall (.loadImage [1] 0x2000) start) (fun t => t.fault = some (.imageTooLarge 0x2000 1)) = true ∧
      answers (hostCall (.raise 1) { start with ie := true }) (fun t => t.fault = none) = true ∧
      start.fault = none ∧ answers (step start) (fun t => t.fault = none) = true ∧
      answers (hostCall (.readMemory 0) start) (fun t => t = start) = true ∧
      answers (hostCall (.readLatch 0) start) (fun t => t = start) = true ∧
      answers (hostCall .readFault start) (fun t => t = start) = true := by decide

theorem test_witness_ControlAndIoStateHasFewWriters :
    answers (exec .ei start) (fun t => t.ie ≠ start.ie) = true ∧ answers (exec .hlt start) (fun t => t.halt ≠ start.halt) = true ∧
      answers (exec (.outPort 4) (withA 1 f0)) (fun t => t.shift ≠ start.shift) = true ∧
      answers (exec (.outPort 2) (withA 1 f0)) (fun t => t.shiftOff ≠ start.shiftOff) = true ∧
      answers (exec (.outPort 7) (withA 1 f0)) (fun t => t.outLatch ≠ start.outLatch) = true := by decide

theorem test_witness_OnlyStoresAndIllegalBytesRaise :
    start.fault = none ∧ answers (exec (.sta 0x1FFF) start) (fun t => t.fault = some (.writeProtectionViolation 0x1FFF 0 0x2000)) = true ∧
      answers (exec .illegal08 start) (fun t => t.fault = some (.unknownOpcode 8 0x2000)) = true := by decide

theorem test_witness_EveryCallAnswers :
    (∀ v, HostCall.execute = .raise v → v.toNat ≤ 7) ∧ (∀ v, HostCall.raise 7 = .raise v → v.toNat ≤ 7) := ⟨nofun, by rintro _ ⟨⟩; decide⟩

theorem test_witness_ReportedCyclesAreTheTables :
    start.fault = none ∧ cyclesNotTakenOf .nop = none ∧ answers (exec .nop start) (fun t => t.fault = none) = true ∧
      answers (exec (cccInstr .nz 0x3000) start) (fun t => t.fault = none) = true ∧
      answers (exec (cccInstr .z 0x3000) start) (fun t => t.fault = none) = true := by decide

end Sys2Proof.Tests
end

section
/-! Every instruction is one of the families of the map (R109): the case split that keeps the instruction's name beside its
meaning, one case for each `exec_` lemma of Laws/Exec.lean. -/

namespace Sys2Proof

/-- The families of instructions by their builders: the view of an instruction that `Instr.family` gives. -/
inductive Instr.Family : Instr → Prop
  | nop : Family .nop
  | lxi (p : Pair) (v : Word) : Family (lxiInstr p v)
  | dad (p : Pair) : Family (dadInstr p)
  | stax (p : IndexPair) : Family (staxInstr p)
  | ldax (p : IndexPair) : Family (ldaxInstr p)
  | shld (a : Word) : Family (.shld a)
  | lhld (a : Word) : Family (.lhld a)
  | sta (a : Word) : Family (.sta a)
  | lda (a : Word) : Family (.lda a)
  | inx (p : Pair) : Family (inxInstr p)
  | dcx (p : Pair) : Family (dcxInstr p)
  | inrReg (r : Reg) : Family (inrInstr (.reg r))
  | inrM : Family .inrM
  | dcrReg (r : Reg) : Family (dcrInstr (.reg r))
  | dcrM : Family .dcrM
  | mviReg (r : Reg) (v : Byte) : Family (mviInstr (.reg r) v)
  | mviM (v : Byte) : Family (.mviM v)
  | rlc : Family .rlc
  | rrc : Family .rrc
  | ral : Family .ral
  | rar : Family .rar
  | daa : Family .daa
  | cma : Family .cma
  | stc : Family .stc
  | cmc : Family .cmc
  | movRegReg (dst src : Reg) : Family (movInstr (.reg dst) (.reg src))
  | movRegM (dst : Reg) : Family (movInstr (.reg dst) .m)
  | movMReg (src : Reg) : Family (movInstr .m (.reg src))
  | hlt : Family .hlt
  | aluReg (op : AluOp) (r : Reg) : Family (aluInstr op (.reg r))
  | aluM (op : AluOp) : Family (aluInstr op .m)
  | aluImm (op : AluOp) (v : Byte) : Family (aluImmInstr op v)
  | rcc (cc : Cond) : Family (rccInstr cc)
  | ret : Family .ret
  | pchl : Family .pchl
  | sphl : Family .sphl
  | pop (p : StackPair) : Family (popInstr p)
  | push (p : StackPair) : Family (pushInstr p)
  | jcc (cc : Cond) (a : Word) : Family (jccInstr cc a)
  | jmp (a : Word) : Family (.jmp a)
  | outPort (p : Byte) : Family (.outPort p)
  | inPort (p : Byte) : Family (.inPort p)
  | xthl : Family .xthl
  | xchg : Family .xchg
  | di : Family .di
  | ei : Family .ei
  | ccc (cc : Cond) (a : Word) : Family (cccInstr cc a)
  | call (a : Word) : Family (.call a)
  | rst (n : Fin 8) : Family (rstInstr n)
  | illegal (i : Instr) (h : i.isIllegal = true) : Family i

/-! A family with both operand forms, whichever the operand is. -/

theorem Instr.Family.inr : ∀ o, Family (inrInstr o)
  | .reg r => .inrReg r
  | .m => .inrM

theorem Instr.Family.dcr : ∀ o, Family (dcrInstr o)
  | .reg r => .dcrReg r
  | .m => .dcrM

theorem Instr.Family.mvi (v : Byte) : ∀ o, Family (mviInstr o v)
  | .reg r => .mviReg r v
  | .m => .mviM v

/-- The operand pair M,M of MOV is HLT (R110). -/
theorem Instr.Family.mov : ∀ dst src, Family (movInstr dst src)
  | .reg dst, .reg src => .movRegReg dst src
  | .reg dst, .m => .movRegM dst
  | .m, .reg src => .movMReg src
  | .m, .m => .hlt

theorem Instr.Family.alu (op : AluOp) : ∀ o, Family (aluInstr op o)
  | .reg r => .aluReg op r
  | .m => .aluM op

theorem decodeGroup0_family (mid low : Nat) (b1 b2 : Byte) : (decodeGroup0 mid low b1 b2).Family := by
  unfold decodeGroup0
  split
  · split
    · exact .nop
    all_goals exact .illegal _ rfl
  · split
    · exact .lxi _ _
    · exact .dad _
  · split
    · exact .stax .bc
    · exact .ldax .bc
    · exact .stax .de
    · exact .ldax .de
    · exact .shld _
    · exact .lhld _
    · exact .sta _
    · exact .lda _
  · split
    · exact .inx _
    · exact .dcx _
  · exact .inr _
  · exact .dcr _
  · exact .mvi _ _
  · split
    · exact .rlc
    · exact .rrc
    · exact .ral
    · exact .rar
    · exact .daa
    · exact .cma
    · exact .stc
    · exact .cmc

theorem decodeGroup3_family (mid low : Nat) (b1 b2 : Byte) : (decodeGroup3 mid low b1 b2).Family := by
  unfold decodeGroup3
  split
  · exact .rcc _
  · split
    · exact .ret
    · exact .illegal _ rfl
    · exact .pchl
    · exact .sphl
    · exact .pop _
  · exact .jcc _ _
  · split
    · exact .jmp _
    · exact .illegal _ rfl
    · exact .outPort _
    · exact .inPort _
    · exact .xthl
    · exact .xchg
    · exact .di
    · exact .ei
  · exact .ccc _ _
  · split
    · exact .call _
    · exact .illegal _ rfl
    · exact .illegal _ rfl
    · exact .illegal _ rfl
    · exact .push _
  · exact .aluImm _ _
  · exact .rst _

/-- The decoder's quarters of the map hold the families (R101). -/
theorem decodeOp_family (op b1 b2 : Byte) : (decodeOp op b1 b2).Family := by
  unfold decodeOp
  split
  · exact decodeGroup0_family _ _ _ _
  · exact .mov _ _
  · exact .alu _ _
  · exact decodeGroup3_family _ _ _ _

/-- The decoder reads an instruction back from its opcode byte and its operand bytes (R100, R103). -/
theorem decodeOp_encode (i : Instr) :
    ∃ op ops, encode i = op :: ops ∧ decodeOp op (ops.getD 0 0) (ops.getD 1 0) = i := by
  cases i with
  | lxiB imm | lxiD imm | lxiH imm | lxiSp imm | shld imm | lhld imm | sta imm | lda imm | jmp imm | call imm
  | jnz imm | jz imm | jnc imm | jc imm | jpo imm | jpe imm | jp imm | jm imm
  | cnz imm | cz imm | cnc imm | cc imm | cpo imm | cpe imm | cp imm | cm imm =>
    exact ⟨_, _, rfl, congrArg _ (Machine.pairOf_hiByte_loByte imm)⟩
  | _ => exact ⟨_, _, rfl, rfl⟩

/-- Every instruction is in a family: what its bytes decode to is. -/
theorem Instr.family (i : Instr) : i.Family := by
  obtain ⟨op, ops, -, h⟩ := decodeOp_encode i
  exact h ▸ decodeOp_family _ _ _

end Sys2Proof
end

section
/-! What an instruction keeps of IE, HALT and the I/O state (R40, R41, R43, R44, R46, R47), and the few instructions that write
them. -/

namespace Sys2Proof.Machine

/-- IE, HALT and the I/O state are unchanged; FAULT may change. -/
def KeepsModeAndIo (s t : State) : Prop := t.ie = s.ie ∧ t.halt = s.halt ∧ KeepsIo s t

theorem enter_keepsModeAndIo (s : State) (len : Nat) : KeepsModeAndIo s (s.enter len) := ⟨rfl, rfl, rfl, rfl, rfl, rfl⟩

/-- The state a call has come to, going on or stopped, keeps IE, HALT and the I/O state of `s`. -/
def Flow.KeepsModeAndIo (s : State) : Flow → Prop
  | .go t => Machine.KeepsModeAndIo s t
  | .stop t => Machine.KeepsModeAndIo s t

theorem Flow.KeepsModeAndIo.andThen {s : State} {f : Flow} {k : State → Flow} (hf : f.KeepsModeAndIo s)
    (hk : ∀ t, Machine.KeepsModeAndIo s t → (k t).KeepsModeAndIo s) : (f.andThen k).KeepsModeAndIo s :=
  match f with
  | .go t => hk t hf
  | .stop _ => hf

theorem KeepsModeAndIo.of_complete {s t u : State} {n : Nat} (h : complete n u = .next t) (hu : KeepsModeAndIo s u) :
    KeepsModeAndIo s t := by
  rw [complete_next h]; exact hu

theorem KeepsModeAndIo.of_finish {s t : State} {f : Flow} {n : Nat} (h : f.finish n = .next t) (hf : f.KeepsModeAndIo s) :
    KeepsModeAndIo s t := by
  obtain ⟨u, rfl, rfl⟩ | rfl := Flow.finish_next h <;> exact hf

/-! ## Writes, pushes and calls -/

theorem memWrite_keepsModeAndIo {s t : State} (h : KeepsModeAndIo s t) (a : Word) (v : Byte) (pc0 : Word) :
    (memWrite a v pc0 t).KeepsModeAndIo s := by
  obtain ⟨-, e⟩ | ⟨-, e⟩ := memWrite_cases a v pc0 t <;> rw [e] <;> exact h

theorem memWrite16_keepsModeAndIo {s t : State} (h : KeepsModeAndIo s t) (a v pc0 : Word) :
    (memWrite16 a v pc0 t).KeepsModeAndIo s :=
  (memWrite_keepsModeAndIo h _ _ _).andThen fun _ hu => memWrite_keepsModeAndIo hu _ _ _

theorem push16_keepsModeAndIo {s t : State} (h : KeepsModeAndIo s t) (hi lo : Byte) (pc0 : Word) :
    (push16 hi lo pc0 t).KeepsModeAndIo s :=
  (memWrite_keepsModeAndIo h _ _ _).andThen fun _ hu => (memWrite_keepsModeAndIo hu _ _ _).andThen fun _ hv => hv

theorem callTo_keepsModeAndIo {s t : State} {len n : Nat} {a : Word} (h : callTo len n a s = .next t) : KeepsModeAndIo s t :=
  .of_finish h ((push16_keepsModeAndIo (enter_keepsModeAndIo s len) _ _ _).andThen fun _ hu => hu)

/-! ## Every instruction -/

/-- Every instruction but EI, DI, HLT and OUT keeps IE, HALT and the I/O state, whether it completes or stops. -/
theorem exec_keepsModeAndIo {i : Instr} {s t : State} (h : exec i s = .next t) :
    (i = .ei ∨ i = .di ∨ i = .hlt ∨ ∃ p, i = .outPort p) ∨ KeepsModeAndIo s t := by
  have same := enter_keepsModeAndIo s
  cases i.family with
  | ei | di | hlt | outPort => left; simp
  | nop | lhld | lda | rlc | rrc | ral | rar | daa | cma | stc | cmc | ret | pchl | sphl | jmp | inPort | xchg =>
    exact .inr (.of_complete h (by simp [KeepsModeAndIo, KeepsIo]))
  | lxi | dad | ldax | inx | dcx | inrReg | dcrReg | mviReg | movRegReg | movRegM | aluReg | aluM | aluImm | pop =>
    simp only [exec_lxi, exec_dad, exec_ldax, exec_inx, exec_dcx, exec_inr_reg, exec_dcr_reg, exec_mvi_reg,
      exec_mov_reg_reg, exec_mov_reg_m, exec_alu_reg, exec_alu_m, exec_alu_imm, exec_pop] at h
    exact .inr (.of_complete h (by simp [KeepsModeAndIo, KeepsIo, State.aluInto]))
  | jcc cc a =>
    simp only [exec_jcc, jumpIf] at h
    split at h <;> exact .inr (.of_complete h (same 3))
  | rcc cc =>
    simp only [exec_rcc, returnIf] at h
    split at h <;> exact .inr (.of_complete h (same 1))
  | ccc cc a =>
    simp only [exec_ccc, callIf] at h
    split at h
    · exact .inr (callTo_keepsModeAndIo h)
    · exact .inr (.of_complete h (same 3))
  | call a => exact .inr (callTo_keepsModeAndIo h)
  | rst n => exact .inr (callTo_keepsModeAndIo (exec_rst n s ▸ h))
  | push p => exact .inr (.of_finish (exec_push p s ▸ h) (push16_keepsModeAndIo (same 1) _ _ _))
  | stax p => exact .inr (.of_finish (exec_stax p s ▸ h) (memWrite_keepsModeAndIo (same 1) _ _ _))
  | movMReg r => exact .inr (.of_finish (exec_mov_m_reg r s ▸ h) (memWrite_keepsModeAndIo (same 1) _ _ _))
  | mviM => exact .inr (.of_finish h (memWrite_keepsModeAndIo (same 2) _ _ _))
  | sta => exact .inr (.of_finish h (memWrite_keepsModeAndIo (same 3) _ _ _))
  | shld => exact .inr (.of_finish h (memWrite16_keepsModeAndIo (same 3) _ _ _))
  | inrM | dcrM => exact .inr (.of_finish h ((memWrite_keepsModeAndIo (same 1) _ _ _).andThen fun _ hu => hu))
  | xthl => exact .inr (.of_finish h ((memWrite16_keepsModeAndIo (same 1) _ _ _).andThen fun _ hu => hu))
  | illegal i hi =>
    rw [exec_illegal i hi] at h
    exact .inr (.of_finish h (same 0))

end Sys2Proof.Machine
end

section
open Sys2Proof Sys2Proof.Machine

/-- Settles O56: but for the four writers every instruction keeps IE, HALT and the I/O state, and each writer names the fields
it writes, an OUT by its port (R296). -/
theorem controlAndIoStateHasFewWriters : Obligations.ControlAndIoStateHasFewWriters := by
  intro i s t h
  obtain (rfl | rfl | rfl | ⟨p, rfl⟩) | ⟨hie, hhalt, hshift, hoff, hsnap, hlatch⟩ := exec_keepsModeAndIo h
  · simp [complete_next (n := 4) (s := (s.enter 1).setIe true) h]
  · simp [complete_next (n := 4) (s := (s.enter 1).setIe false) h]
  · simp [complete_next (n := 7) (s := (s.enter 1).setHalt true) h]
  · have ht := complete_next (n := 10) (s := (s.enter 2).portWrite p s.regs.a) h
    obtain ⟨rfl, e⟩ | ⟨rfl, e⟩ | ⟨-, e⟩ | ⟨rfl, e⟩ | ⟨hp, e⟩ := portWrite_cases (s.enter 2) p s.regs.a <;> rw [e] at ht
    · simp [ht]
    · simp [ht]
    · simp [ht]
    · simp [ht]
    · simpa [ht] using fun _ => hp
  · simp [hie, hhalt, hshift, hoff, hsnap, hlatch]

end

section
/-! The flag byte bit by bit (R36-R38), and its two conversions. -/

namespace Sys2Proof

/-- The byte `b << k` has `b` at bit `k` and 0 elsewhere (R7). -/
@[simp] theorem getElem_bitAt (b : Bool) (k i : Nat) (hi : i < 8) : (bitAt b k)[i] = (decide (i = k) && b) := by
  obtain hlt | rfl | hgt := Nat.lt_trichotomy i k
  · simp [bitAt, hlt, hlt.ne]
  · simp [bitAt]
  · simp [bitAt, hgt.ne', hgt.not_gt, show i - k ≠ 0 by omega]

namespace Machine

/-- Back from the flag byte come the flags it was made of (R38). -/
@[simp] theorem byteToFlags_flagsToByte (f : Flags) : byteToFlags (flagsToByte f) = f := by
  simp [byteToFlags, flagsToByte]

/-- Back from the flags comes the byte with bits 5 and 3 cleared and bit 1 set (R36-R38). -/
theorem flagsToByte_byteToFlags (v : Byte) : flagsToByte (byteToFlags v) = (v &&& 0xD5) ||| 0x02 := by
  apply BitVec.eq_of_getLsbD_eq
  intro i hi
  interval_cases i <;> simp [byteToFlags, flagsToByte]

end Machine
end Sys2Proof
end

section
open Sys2Proof Sys2Proof.Machine

/-- Settles O37, bit by bit. -/
theorem flagByteLayout : Obligations.FlagByteLayout := by
  refine ⟨fun f => ?bits, fun v => ⟨rfl, flagsToByte_byteToFlags v⟩, byteToFlags_flagsToByte, fun s => ?psw⟩
  case bits => simp [flagsToByte]
  case psw => simp [State.stackPair]

end

section
/-! How a call may change the memory (R73, R80): a step, and every host call but load_image, by stores outside ROM alone. -/

namespace Sys2Proof.Machine

/-! ## Stores outside ROM -/

/-- The memories that come from `m` by stores to addresses outside ROM (R73, R74). -/
inductive RamStores (m : Cells) : Cells → Prop
  | refl : RamStores m m
  | store {n : Cells} {a : Word} (h : RamStores m n) (ha : 0x1FFF < a.toNat) (v : Byte) : RamStores m (n.write a.toNat v)

theorem RamStores.memoryWf {m n : Cells} (h : RamStores m n) (hm : Memory.wf m = true) : Memory.wf n = true := by
  induction h with
  | refl => exact hm
  | @store _ a _ _ v ih => exact Cells.wf_write v a.isLt ih

/-- A byte of ROM reads as it did before the stores. -/
theorem RamStores.read_rom {m n : Cells} (h : RamStores m n) {x : Nat} (hx : x ≤ 0x1FFF) : n.read x = m.read x := by
  induction h with
  | refl => rfl
  | store _ ha v ih => rw [Cells.read_write_other _ _ _ v (by omega), ih]

/-- The state a call has come to, going on or stopped, has come from the memory `m` by stores outside ROM. -/
def Flow.StoresInRam (m : Cells) : Flow → Prop
  | .go t => RamStores m t.mem
  | .stop t => RamStores m t.mem

theorem Flow.StoresInRam.andThen {m : Cells} {f : Flow} {k : State → Flow} (hf : f.StoresInRam m)
    (hk : ∀ t, RamStores m t.mem → (k t).StoresInRam m) : (f.andThen k).StoresInRam m :=
  match f with
  | .go t => hk t hf
  | .stop _ => hf

theorem memWrite_storesInRam {m : Cells} {t : State} (h : RamStores m t.mem) (a : Word) (v : Byte) (pc0 : Word) :
    (memWrite a v pc0 t).StoresInRam m := by
  obtain ⟨-, e⟩ | ⟨ha, e⟩ := memWrite_cases a v pc0 t <;> rw [e]
  · exact h
  · exact h.store ha v

theorem memWrite16_storesInRam {m : Cells} {t : State} (h : RamStores m t.mem) (a v pc0 : Word) :
    (memWrite16 a v pc0 t).StoresInRam m :=
  (memWrite_storesInRam h _ _ _).andThen fun _ hu => memWrite_storesInRam hu _ _ _

theorem push16_storesInRam {m : Cells} {t : State} (h : RamStores m t.mem) (hi lo : Byte) (pc0 : Word) :
    (push16 hi lo pc0 t).StoresInRam m :=
  (memWrite_storesInRam h _ _ _).andThen fun _ hu => (memWrite_storesInRam hu _ _ _).andThen fun _ hv => hv

theorem acceptInterrupt_storesInRam (n : Nat) (s : State) : (acceptInterrupt n s).StoresInRam s.mem :=
  (push16_storesInRam .refl _ _ _).andThen fun _ hu => hu

/-! ## Every instruction -/

/-- The next state a call answers, if it answers one, has come from the memory `m` by stores outside ROM. -/
def AnswerStoresInRam (m : Cells) (r : Result) : Prop := ∀ t, r = .next t → RamStores m t.mem

theorem complete_storesInRam {m : Cells} {u : State} {n : Nat} (hu : u.mem = m) : AnswerStoresInRam m (complete n u) := by
  intro t h
  rw [complete_next h, ← hu]
  exact .refl

theorem Flow.StoresInRam.finish {m : Cells} {f : Flow} {n : Nat} (hf : f.StoresInRam m) :
    AnswerStoresInRam m (f.finish n) := by
  intro t h
  obtain ⟨u, rfl, rfl⟩ | rfl := Flow.finish_next h <;> exact hf

theorem callTo_storesInRam (len n : Nat) (a : Word) (s : State) : AnswerStoresInRam s.mem (callTo len n a s) :=
  Flow.StoresInRam.finish (.andThen (push16_storesInRam .refl _ _ _) fun _ hu => hu)

theorem portWrite_mem (s : State) (p v : Byte) : (s.portWrite p v).mem = s.mem := by
  obtain ⟨-, e⟩ | ⟨-, e⟩ | ⟨-, e⟩ | ⟨-, e⟩ | ⟨-, e⟩ := portWrite_cases s p v <;> rw [e] <;> rfl

/-- Every instruction stores outside ROM alone, whether it completes or stops (R73, R342). -/
theorem exec_storesInRam (i : Instr) (s : State) : AnswerStoresInRam s.mem (exec i s) := by
  apply exec_shared
  case movRR | movRM | mviR | lxi | lda | lhld | ldax | xchg | aluR | aluM | aluI | inrR | dcrR | inx | dcx | dad | daa
      | rot | cma | stc | cmc | jmp | ret | pchl | pop | sphl | inp | nop | ie | hlt =>
    intros
    exact complete_storesInRam (by simp [State.aluInto])
  case outp => exact fun p => complete_storesInRam (portWrite_mem _ p _)
  case jcc =>
    intro cc a
    unfold jumpIf
    split <;> exact complete_storesInRam rfl
  case rcc =>
    intro cc
    unfold returnIf
    split <;> exact complete_storesInRam rfl
  case ccc =>
    intro cc a
    unfold callIf
    split
    · exact callTo_storesInRam _ _ _ s
    · exact complete_storesInRam rfl
  case call => exact fun len n a => callTo_storesInRam len n a s
  case push => exact fun p => (push16_storesInRam .refl _ _ _).finish
  case movMR | mviM | sta | stax => exact fun _ => (memWrite_storesInRam .refl _ _ _).finish
  case shld => exact fun a => (memWrite16_storesInRam .refl _ _ _).finish
  case inrM | dcrM => exact Flow.StoresInRam.finish (.andThen (memWrite_storesInRam .refl _ _ _) fun _ hu => hu)
  case xthl => exact Flow.StoresInRam.finish (.andThen (memWrite16_storesInRam .refl _ _ _) fun _ hu => hu)
  case ill => exact fun op => Flow.StoresInRam.finish (f := .stop _) .refl

theorem step_storesInRam {s t : State} (h : step s = .next t) : RamStores s.mem t.mem := by
  obtain ⟨-, rfl⟩ | ⟨-, -, rfl⟩ | ⟨-, -, h⟩ := step_cases h
  · exact .refl
  · exact .refl
  · exact exec_storesInRam _ s t h

end Sys2Proof.Machine
end

section
/-! What each call of the host can do to the state (R363). -/

namespace Sys2Proof.Machine

theorem unlessStopped_next {s t : State} {r : Result} (h : unlessStopped s r = .next t) :
    t = s ∨ (s.fault = none ∧ r = .next t) := by
  cases hf : s.fault with
  | some e => exact .inl (by simpa using ((unlessStopped_stopped hf r).symm.trans h).symm)
  | none => exact .inr ⟨rfl, (unlessStopped_running hf r).symm.trans h⟩

/-- How the host's calls change a state: the view of an answered call that `hostCall_changes` gives. -/
inductive HostCall.Changes (s : State) : HostCall → State → Prop
  | nothing (c : HostCall) : Changes s c s
  | step {t : State} (h : Machine.step s = .next t) : Changes s .execute t
  | interrupt {t : State} (v : Byte) (hf : s.fault = none) (hv : v.toNat ≤ 7) (hie : s.ie = true)
      (h : acceptInterrupt v.toNat s = .go t ∨ acceptInterrupt v.toNat s = .stop t) : Changes s (.raise v) t
  | ie (b : Bool) (hf : s.fault = none) : Changes s (.setInterruptsEnabled b) (s.setIe b)
  | snapshot (p v : Byte) (hf : s.fault = none) :
      Changes s (.setInputPort p v) { s with inSnap := s.inSnap.write p.toNat v }
  | image (bytes : List Byte) (origin : Word) (hf : s.fault = none) (h : origin.toNat + bytes.length ≤ 0x2000) :
      Changes s (.loadImage bytes origin) { s with mem := s.mem.load origin.toNat bytes }
  | imageTooLarge (bytes : List Byte) (origin : Word) (hf : s.fault = none) (h : 0x2000 < origin.toNat + bytes.length) :
      Changes s (.loadImage bytes origin) (s.raiseError (.imageTooLarge origin bytes.length))

theorem raiseInterrupt_changes {v : Byte} {s t : State} (h : raiseInterrupt v s = .next t) :
    HostCall.Changes s (.raise v) t := by
  obtain rfl | ⟨hf, h⟩ := unlessStopped_next h
  · exact .nothing _
  split at h
  · cases h
  next hv =>
    split at h
    next hie =>
      refine .interrupt v hf (by omega) hie ?_
      split at h <;> cases h
      · exact .inl ‹_›
      · exact .inr ‹_›
    next =>
      cases h
      exact .nothing _

/-- An image that fits is stored at its origin (R80). -/
theorem loadImage_fits {bytes : List Byte} {origin : Word} {s : State} (hf : s.fault = none)
    (h : origin.toNat + bytes.length ≤ 0x2000) :
    loadImage bytes origin s = .next { s with mem := s.mem.load origin.toNat bytes } := by
  rw [loadImage, unlessStopped_running hf, if_neg (by simpa [Config.romHi] using h)]

/-- An image that does not fit stores nothing and raises ImageTooLarge (R344). -/
theorem loadImage_tooLarge {bytes : List Byte} {origin : Word} {s : State} (hf : s.fault = none)
    (h : 0x2000 < origin.toNat + bytes.length) :
    loadImage bytes origin s = .next (s.raiseError (.imageTooLarge origin bytes.length)) := by
  rw [loadImage, unlessStopped_running hf, if_pos (by simpa [Config.romHi] using h)]

theorem loadImage_changes {bytes : List Byte} {origin : Word} {s t : State} (h : loadImage bytes origin s = .next t) :
    HostCall.Changes s (.loadImage bytes origin) t := by
  obtain rfl | ⟨hf, -⟩ := unlessStopped_next h
  · exact .nothing _
  obtain hlarge | hfits := Nat.lt_or_ge 0x2000 (origin.toNat + bytes.length)
  · rw [loadImage_tooLarge hf hlarge] at h
    cases h
    exact .imageTooLarge _ _ hf hlarge
  · rw [loadImage_fits hf hfits] at h
    cases h
    exact .image _ _ hf hfits

/-- Every call that answers a next state makes one of the changes of the view. -/
theorem hostCall_changes {c : HostCall} {s t : State} (h : hostCall c s = .next t) : c.Changes s t := by
  cases c with
  | execute => exact .step h
  | raise v => exact raiseInterrupt_changes h
  | setInterruptsEnabled b =>
    obtain rfl | ⟨hf, h⟩ := unlessStopped_next h
    · exact .nothing _
    · cases h
      exact .ie b hf
  | setInputPort p v =>
    obtain rfl | ⟨hf, h⟩ := unlessStopped_next h
    · exact .nothing _
    · cases h
      exact .snapshot p v hf
  | loadImage bytes origin => exact loadImage_changes h
  | readMemory | readLatch | readFault =>
    cases h
    exact .nothing _

/-- Every call but load_image stores outside ROM alone (R73, R86). -/
theorem hostCall_storesInRam {c : HostCall} {s t : State} (hc : ∀ bytes origin, c ≠ .loadImage bytes origin)
    (h : hostCall c s = .next t) : RamStores s.mem t.mem := by
  cases hostCall_changes h with
  | nothing | ie | snapshot => exact .refl
  | step h => exact step_storesInRam h
  | interrupt v _ _ _ h =>
    have stores := acceptInterrupt_storesInRam v.toNat s
    obtain h | h := h <;> rw [h] at stores <;> exact stores
  | image bytes origin | imageTooLarge bytes origin => exact absurd rfl (hc bytes origin)

end Sys2Proof.Machine
end

section
open Sys2Proof Sys2Proof.Machine

/-- Settles O54: a step and every other call but load_image store outside ROM alone, so a byte of ROM reads as before. -/
theorem noStepChangesRom : Obligations.NoStepChangesRom :=
  ⟨fun _ _ h _ hx => (step_storesInRam h).read_rom hx, fun _ _ _ hc h _ hx => (hostCall_storesInRam hc h).read_rom hx⟩

end

section
/-! Every call keeps the memory and the port arrays canonical (R46, R47, R48, R70). -/

namespace Sys2Proof.Machine

/-- Stores outside ROM keep a state canonical where the input snapshots stay and the output latches stay canonical. -/
theorem State.wf_of_ramStores {s t : State} (hs : s.wf = true) (hm : RamStores s.mem t.mem) (hi : t.inSnap = s.inSnap)
    (ho : Ports.wf s.outLatch = true → Ports.wf t.outLatch = true) : t.wf = true := by
  obtain ⟨hsm, hsi, hso⟩ := (State.wf_iff s).1 hs
  exact (State.wf_iff t).2 ⟨hm.memoryWf hsm, hi ▸ hsi, ho hso⟩

/-- An OUT writes at most one latch, of a port below 256 (R47, R302). -/
theorem portWrite_keepsLatchesWf (s : State) (p v : Byte) (h : Ports.wf s.outLatch = true) :
    Ports.wf (s.portWrite p v).outLatch = true := by
  obtain ⟨-, e⟩ | ⟨-, e⟩ | ⟨-, e⟩ | ⟨-, e⟩ | ⟨-, e⟩ := portWrite_cases s p v <;> rw [e]
  case inr.inr.inr.inr => exact Cells.wf_write v p.isLt h
  all_goals exact h

theorem exec_keepsWf {i : Instr} {s t : State} (hs : s.wf = true) (h : exec i s = .next t) : t.wf = true := by
  obtain ⟨-, -, -, -, hsnap, hlatch⟩ := controlAndIoStateHasFewWriters i s t h
  refine State.wf_of_ramStores hs (exec_storesInRam i s t h) hsnap fun ho => ?_
  by_cases e : t.outLatch = s.outLatch
  · rwa [e]
  · obtain ⟨p, rfl, -⟩ := hlatch e
    rw [complete_next (n := 10) (s := (s.enter 2).portWrite p s.regs.a) h]
    exact portWrite_keepsLatchesWf (s.enter 2) p _ ho

theorem step_keepsWf {s t : State} (hs : s.wf = true) (h : step s = .next t) : t.wf = true := by
  obtain ⟨-, rfl⟩ | ⟨-, -, rfl⟩ | ⟨-, -, h⟩ := step_cases h
  · exact hs
  · exact hs
  · exact exec_keepsWf hs h

/-- An accepted interrupt touches no port array, whether it completes or stops (R353). -/
theorem acceptInterrupt_keepsPorts {n : Nat} {s t : State}
    (h : acceptInterrupt n s = .go t ∨ acceptInterrupt n s = .stop t) :
    t.inSnap = s.inSnap ∧ t.outLatch = s.outLatch := by
  obtain ⟨-, e⟩ | ⟨-, -, e⟩ | ⟨-, -, e⟩ := acceptInterrupt_cases n s
  all_goals
    rw [e] at h
    obtain h | h := h <;> cases h
    exact ⟨rfl, rfl⟩

theorem hostCall_keepsWf {c : HostCall} {s t : State} (hs : s.wf = true) (h : hostCall c s = .next t) : t.wf = true := by
  cases hostCall_changes h with
  | nothing | ie | imageTooLarge => exact hs
  | step h => exact step_keepsWf hs h
  | interrupt v _ _ _ ha =>
    obtain ⟨hi, ho⟩ := acceptInterrupt_keepsPorts ha
    exact State.wf_of_ramStores hs (hostCall_storesInRam (by simp) h) hi fun hso => ho ▸ hso
  | snapshot p v =>
    obtain ⟨hm, hi, ho⟩ := (State.wf_iff s).1 hs
    exact (State.wf_iff _).2 ⟨hm, Cells.wf_write v p.isLt hi, ho⟩
  | image bytes origin _ hfits =>
    obtain ⟨hm, hi, ho⟩ := (State.wf_iff s).1 hs
    exact (State.wf_iff _).2 ⟨Cells.wf_load bytes (by omega) hm, hi, ho⟩

end Sys2Proof.Machine
end

section
open Sys2Proof Sys2Proof.Machine

/-- Settles O53: every write of a call, to the memory or to a port array, goes to an address in range and keeps the form. -/
theorem everyCallKeepsCanonicalForm : Obligations.EveryCallKeepsCanonicalForm :=
  ⟨fun _ _ hs h => step_keepsWf hs h, fun _ _ _ hs h => hostCall_keepsWf hs h⟩

end

section
/-! What reads back after an image is loaded (R80). -/

namespace Sys2Proof.Machine

/-- Byte `k` of what is loaded at `a` reads back at `a + k`. -/
theorem Cells.read_load_inside {bound : Nat} (bs : List Byte) {m : Cells} {a k : Nat} (hm : Cells.wf bound m = true)
    (hb : a + bs.length ≤ bound) (hk : k < bs.length) : (m.load a bs).read (a + k) = bs[k] := by
  induction bs generalizing m a k with
  | nil => cases hk
  | cons b rest ih =>
    simp only [List.length_cons] at hb hk
    rw [Cells.load]
    cases k with
    | zero =>
      calc ((m.write a b).load (a + 1) rest).read a
          = (m.write a b).read a := Cells.read_load_outside rest _ _ _ (by omega)
        _ = b := Cells.read_write_same a b hm
    | succ j =>
      have h := ih (m := m.write a b) (a := a + 1) (k := j) (Cells.wf_write b (by omega) hm) (by omega) (by omega)
      rwa [show a + 1 + j = a + (j + 1) by omega] at h

end Sys2Proof.Machine
end

section
open Sys2Proof Sys2Proof.Machine

/-- Settles O51: an image that fits reads back byte by byte with every other address as before; no other image is stored at all. -/
theorem loadImageIsAllOrNothing : Obligations.LoadImageIsAllOrNothing := by
  intro bytes origin s hf hm
  refine ⟨fun hfits => ⟨_, loadImage_fits hf hfits, ?inside, ?outside, ?frame⟩, loadImage_tooLarge hf⟩
  case inside => exact fun k hk => Cells.read_load_inside bytes hm (by omega) hk
  case outside => exact fun x hx => Cells.read_load_outside bytes s.mem origin.toNat x hx
  case frame => exact ⟨rfl, rfl, rfl, rfl, ⟨rfl, rfl, rfl, rfl⟩, rfl, rfl, rfl, rfl⟩

end

section
/-! The bytes of each family of instructions in the fields of the opcode byte (R101-R109), and the two directions of the codec:
what an instruction's bytes decode to, and which bytes an instruction was decoded from. -/

namespace Sys2Proof
open Machine

/-! ## The operand codes of a field -/

theorem opCode_operandOf {n : Nat} (h : n < 8) : opCode (operandOf n) = n := by interval_cases n <;> rfl
theorem rpCode_pairCode {n : Nat} (h : n < 4) : rpCode (pairCode n) = n := by interval_cases n <;> rfl
theorem ppCode_stackPairCode {n : Nat} (h : n < 4) : ppCode (stackPairCode n) = n := by interval_cases n <;> rfl
theorem cccCode_condCode {n : Nat} (h : n < 8) : cccCode (condCode n) = n := by interval_cases n <;> rfl
theorem rstCode_val {n : Nat} (h : n < 8) : (rstCode n).val = n := by interval_cases n <;> rfl

/-! ## The bytes of a family -/

theorem encodes_lxi (p : Pair) (v : Word) : Encodes (lxiInstr p v) (0x01 + 16 * rpCode p) [loByte v, hiByte v] := by
  cases p <;> rfl
theorem encodes_inx (p : Pair) : Encodes (inxInstr p) (0x03 + 16 * rpCode p) [] := by cases p <;> rfl
theorem encodes_dad (p : Pair) : Encodes (dadInstr p) (0x09 + 16 * rpCode p) [] := by cases p <;> rfl
theorem encodes_dcx (p : Pair) : Encodes (dcxInstr p) (0x0B + 16 * rpCode p) [] := by cases p <;> rfl
theorem encodes_inr : ∀ o, Encodes (inrInstr o) (0x04 + 8 * opCode o) []
  | .reg r => by cases r <;> rfl
  | .m => rfl
theorem encodes_dcr : ∀ o, Encodes (dcrInstr o) (0x05 + 8 * opCode o) []
  | .reg r => by cases r <;> rfl
  | .m => rfl
theorem encodes_mvi (v : Byte) : ∀ o, Encodes (mviInstr o v) (0x06 + 8 * opCode o) [v]
  | .reg r => by cases r <;> rfl
  | .m => rfl

/-- The cell of M,M is HLT's (R110). -/
theorem encodes_mov : ∀ dst src, Encodes (movInstr dst src) (0x40 + 8 * opCode dst + opCode src) []
  | .reg dst, .reg src => by cases dst <;> cases src <;> rfl
  | .reg dst, .m => by cases dst <;> rfl
  | .m, .reg src => by cases src <;> rfl
  | .m, .m => rfl

theorem encodes_alu {n : Nat} (h : n < 8) : ∀ o, Encodes (aluInstr (aluCode n) o) (0x80 + 8 * n + opCode o) []
  | .reg r => by interval_cases n <;> cases r <;> rfl
  | .m => by interval_cases n <;> rfl
theorem encodes_aluImm {n : Nat} (h : n < 8) (v : Byte) : Encodes (aluImmInstr (aluCode n) v) (0xC6 + 8 * n) [v] := by
  interval_cases n <;> rfl
theorem encodes_rcc (cc : Cond) : Encodes (rccInstr cc) (0xC0 + 8 * cccCode cc) [] := by cases cc <;> rfl
theorem encodes_jcc (cc : Cond) (a : Word) : Encodes (jccInstr cc a) (0xC2 + 8 * cccCode cc) [loByte a, hiByte a] := by
  cases cc <;> rfl
theorem encodes_ccc (cc : Cond) (a : Word) : Encodes (cccInstr cc a) (0xC4 + 8 * cccCode cc) [loByte a, hiByte a] := by
  cases cc <;> rfl
theorem encodes_pop (p : StackPair) : Encodes (popInstr p) (0xC1 + 16 * ppCode p) [] := by cases p <;> rfl
theorem encodes_push (p : StackPair) : Encodes (pushInstr p) (0xC5 + 16 * ppCode p) [] := by cases p <;> rfl
theorem encodes_rst (n : Fin 8) : Encodes (rstInstr n) (0xC7 + 8 * n.val) [] := by fin_cases n <;> rfl

/-! ## The bytes of what is decoded

Decoded from an opcode byte and two operand bytes, an instruction is encoded by the first one, two or three of them. -/

/-- An encoding is an initial part of its opcode byte and any bytes that its operand bytes are an initial part of; `m` is the
opcode's number as the goal writes it. -/
theorem encodes_isPrefix {i : Instr} {n m : Nat} {ops bs : List Byte} (h : Encodes i n ops) (hn : n = m)
    (hops : ops <+: bs := by simp) : encode i <+: BitVec.ofNat 8 m :: bs := by
  rw [h, hn]
  exact List.cons_prefix_cons.2 ⟨rfl, hops⟩

/-- The quarter `grp = 00` of the map (R109), column by column: a column of one family by its operand code, any other cell by
cell. -/
theorem encode_decodeGroup0 {mid low : Nat} (hmid : mid < 8) (hlow : low < 8) (b1 b2 : Byte) :
    encode (decodeGroup0 mid low b1 b2) <+: [BitVec.ofNat 8 (8 * mid + low), b1, b2] := by
  unfold decodeGroup0
  split
  · interval_cases mid <;> exact ⟨_, rfl⟩
  · split
    · exact encodes_isPrefix (encodes_lxi _ _) (by rw [rpCode_pairCode (by omega)]; omega)
    · exact encodes_isPrefix (encodes_dad _) (by rw [rpCode_pairCode (by omega)]; omega)
  · split
    · exact ⟨_, rfl⟩
    · exact ⟨_, rfl⟩
    · exact ⟨_, rfl⟩
    · exact ⟨_, rfl⟩
    · exact encodes_isPrefix (n := 0x22) rfl rfl
    · exact encodes_isPrefix (n := 0x2A) rfl rfl
    · exact encodes_isPrefix (n := 0x32) rfl rfl
    · exact encodes_isPrefix (n := 0x3A) rfl (by grind)
  · split
    · exact encodes_isPrefix (encodes_inx _) (by rw [rpCode_pairCode (by omega)]; omega)
    · exact encodes_isPrefix (encodes_dcx _) (by rw [rpCode_pairCode (by omega)]; omega)
  · exact encodes_isPrefix (encodes_inr _) (by rw [opCode_operandOf hmid]; omega)
  · exact encodes_isPrefix (encodes_dcr _) (by rw [opCode_operandOf hmid]; omega)
  · exact encodes_isPrefix (encodes_mvi _ _) (by rw [opCode_operandOf hmid]; omega)
  · obtain rfl : low = 7 := by grind
    interval_cases mid <;> exact ⟨_, rfl⟩

/-- The quarter `grp = 11` of the map (R109), column by column. -/
theorem encode_decodeGroup3 {mid low : Nat} (hmid : mid < 8) (hlow : low < 8) (b1 b2 : Byte) :
    encode (decodeGroup3 mid low b1 b2) <+: [BitVec.ofNat 8 (0xC0 + 8 * mid + low), b1, b2] := by
  unfold decodeGroup3
  split
  · exact encodes_isPrefix (encodes_rcc _) (by rw [cccCode_condCode hmid]; omega)
  · split
    · exact ⟨_, rfl⟩
    · exact ⟨_, rfl⟩
    · exact ⟨_, rfl⟩
    · exact ⟨_, rfl⟩
    · exact encodes_isPrefix (encodes_pop _) (by rw [ppCode_stackPairCode (by omega)]; grind)
  · exact encodes_isPrefix (encodes_jcc _ _) (by rw [cccCode_condCode hmid]; omega)
  · split
    · exact encodes_isPrefix (n := 0xC3) rfl rfl
    · exact ⟨_, rfl⟩
    · exact ⟨_, rfl⟩
    · exact ⟨_, rfl⟩
    · exact ⟨_, rfl⟩
    · exact ⟨_, rfl⟩
    · exact ⟨_, rfl⟩
    · exact encodes_isPrefix (n := 0xFB) rfl (by grind)
  · exact encodes_isPrefix (encodes_ccc _ _) (by rw [cccCode_condCode hmid]; omega)
  · split
    · exact encodes_isPrefix (n := 0xCD) rfl rfl
    · exact ⟨_, rfl⟩
    · exact ⟨_, rfl⟩
    · exact ⟨_, rfl⟩
    · exact encodes_isPrefix (encodes_push _) (by rw [ppCode_stackPairCode (by omega)]; grind)
  · exact encodes_isPrefix (encodes_aluImm hmid _) (by omega)
  · exact encodes_isPrefix (encodes_rst _) (by rw [rstCode_val hmid]; grind)

theorem field_eq (v : Byte) (lo len : Nat) : field v lo len = v.toNat / 2 ^ lo % 2 ^ len := by
  simp [field, Nat.shiftRight_eq_div_pow]

theorem field_lt (v : Byte) (lo len : Nat) : field v lo len < 2 ^ len := (v.extractLsb' lo len).isLt

/-- The opcode byte is its three fields (R101). -/
theorem ofNat_fields (op : Byte) : BitVec.ofNat 8 (64 * field op 6 2 + 8 * field op 3 3 + field op 0 3) = op := by
  have := op.isLt
  apply BitVec.eq_of_toNat_eq
  simp only [field_eq, BitVec.toNat_ofNat]
  omega

/-- What is decoded from three bytes is encoded by the first of them. -/
theorem encode_decodeOp_prefix (op b1 b2 : Byte) : encode (decodeOp op b1 b2) <+: [op, b1, b2] := by
  have hgrp : field op 6 2 < 4 := field_lt op 6 2
  have hmid : field op 3 3 < 8 := field_lt op 3 3
  have hlow : field op 0 3 < 8 := field_lt op 0 3
  conv_rhs => rw [← ofNat_fields op]
  unfold decodeOp
  split
  next h => simpa [h] using encode_decodeGroup0 hmid hlow b1 b2
  next h => exact encodes_isPrefix (encodes_mov _ _) (by rw [h, opCode_operandOf hmid, opCode_operandOf hlow])
  next h => exact encodes_isPrefix (encodes_alu hmid _) (by rw [h, opCode_operandOf hlow])
  next => simpa [show field op 6 2 = 3 by grind] using encode_decodeGroup3 hmid hlow b1 b2

/-- The byte decoded is the opcode of the instruction, whatever the operand bytes (R110). -/
@[simp] theorem opcode_decodeOp (op b1 b2 : Byte) : (decodeOp op b1 b2).opcode = op := by
  obtain ⟨o, ops, h, -⟩ := decodeOp_encode (decodeOp op b1 b2)
  have hp := encode_decodeOp_prefix op b1 b2
  rw [h, List.cons_prefix_cons] at hp
  simp [Instr.opcode, h, hp.1]

/-! ## The length, and decoding -/

/-- An instruction has as many bytes as its opcode byte says (R100). -/
theorem encode_length (i : Instr) : (encode i).length = lengthOf i.opcode := by
  cases i <;> exact Laws.RowLength.of_bytes _ _ rfl rfl rfl

theorem operands_length_le {op : Byte} {ops : List Byte} (h : lengthOf op = ops.length + 1) : ops.length ≤ 2 := by
  have := lengthOf_cases op
  omega

/-- What is decoded from an opcode byte and as many operand bytes as it has is encoded by these. -/
theorem encode_decodeOp {op : Byte} {ops : List Byte} (h : lengthOf op = ops.length + 1) :
    encode (decodeOp op (ops.getD 0 0) (ops.getD 1 0)) = op :: ops := by
  have heq := List.prefix_iff_eq_take.1 (encode_decodeOp_prefix op (ops.getD 0 0) (ops.getD 1 0))
  rw [encode_length, opcode_decodeOp, h] at heq
  match ops, operands_length_le h with
  | [], _ | [_], _ | [_, _], _ => exact heq

/-- Decoding takes an opcode byte and as many operand bytes as it has from the front of the list (R100, R103). -/
theorem decode_ok_iff {bs : List Byte} {i : Instr} {rest : List Byte} :
    decode bs = .ok (i, rest) ↔
      ∃ op ops, bs = op :: ops ++ rest ∧ lengthOf op = ops.length + 1 ∧ decodeOp op (ops.getD 0 0) (ops.getD 1 0) = i := by
  constructor
  · intro h
    match bs, h with
    | op :: tail, h =>
      obtain hl | hl | hl := lengthOf_cases op
      · simp only [decode, hl] at h
        cases h
        exact ⟨op, [], rfl, hl, rfl⟩
      · match tail, h with
        | [], h => simp [decode, hl] at h
        | b1 :: more, h =>
          simp only [decode, hl] at h
          cases h
          exact ⟨op, [b1], rfl, hl, rfl⟩
      · match tail, h with
        | [], h | [_], h => simp [decode, hl] at h
        | b1 :: b2 :: more, h =>
          simp only [decode, hl] at h
          cases h
          exact ⟨op, [b1, b2], rfl, hl, rfl⟩
  · rintro ⟨op, ops, rfl, hl, rfl⟩
    match ops, operands_length_le hl with
    | [], _ | [_], _ | [_, _], _ => simp [decode, hl]

end Sys2Proof
end

section
open Sys2Proof Sys2Proof.Machine

/-- Settles O1: the bytes of an instruction are an opcode byte and as many operand bytes as it has, and are read back. -/
theorem decodeOfEncodeIsTheInstruction : Obligations.DecodeOfEncodeIsTheInstruction := by
  intro i rest
  obtain ⟨op, ops, h, hi⟩ := decodeOp_encode i
  have hl : lengthOf op = ops.length + 1 := by simpa [Instr.opcode, h] using (encode_length i).symm
  exact decode_ok_iff.2 ⟨op, ops, by rw [h], hl, hi⟩

/-- Settles O2: the bytes an instruction is decoded from, an opcode byte and its operand bytes, are those that encode it. -/
theorem encodeOfDecodeGivesTheBytesBack : Obligations.EncodeOfDecodeGivesTheBytesBack := by
  intro bs i rest h
  obtain ⟨op, ops, rfl, hl, rfl⟩ := decode_ok_iff.1 h
  rw [encode_decodeOp hl]

/-- Settles O3, by evaluating the decoder on each word. -/
theorem sampleWordsDecodeAsTheMapSays : Obligations.SampleWordsDecodeAsTheMapSays :=
  ⟨rfl, rfl, rfl, rfl, rfl, rfl, rfl, rfl, rfl, rfl, rfl, rfl, rfl, rfl⟩

end

section
/-! The illegal bytes (R112), and how a conditional jump goes (R256). -/

namespace Sys2Proof

/-- An instruction is illegal when its opcode byte is one of the twelve of R112. -/
theorem Instr.isIllegal_iff (i : Instr) : i.isIllegal = true ↔
    i.opcode ∈ ([0x08, 0x10, 0x18, 0x20, 0x28, 0x30, 0x38, 0xCB, 0xD9, 0xDD, 0xED, 0xFD] : List Byte) := by
  rw [← List.contains_iff_mem, ← Bool.eq_iff_iff]
  cases i <;> rfl

namespace Machine

/-- An illegal byte raises UnknownOpcode with PC at its own address (R134, R343). -/
theorem exec_illegal_next {i : Instr} (h : i.isIllegal = true) (s : State) :
    exec i s = .next { s with fault := some (.unknownOpcode i.opcode s.pc), out := Output.nothing } := by
  rw [exec_illegal i h, unknownOpcode, Flow.finish_stop]
  simp [State.enter, State.raiseError]

/-- Jcc replaces PC by the address if its condition holds and by next otherwise, and changes nothing else (R256, R396). -/
theorem exec_jcc_next (cc : Cond) (a : Word) (s : State) :
    exec (jccInstr cc a) s = .next { s with
      pc := if s.flags.cond cc then a else s.pc + 3, out := { cycles := some 10, events := [] } } := by
  rw [exec_jcc, jumpIf]
  split <;> rfl

/-- Jcc's next PC by any wording of its condition. -/
theorem exec_jcc_pc {cc : Cond} {s : State} {cond : Prop} [Decidable cond] (h : s.flags.cond cc = true ↔ cond) (a : Word) :
    ∃ t, exec (jccInstr cc a) s = .next t ∧ t.pc = if cond then a else s.pc + 3 :=
  ⟨_, exec_jcc_next cc a s, by simp only [h]⟩

end Machine
end Sys2Proof
end

section
open Sys2Proof Sys2Proof.Machine

/-- Settles O5: an instruction is illegal by its opcode byte, which the decoder keeps. -/
theorem illegalByteRaisesUnknownOpcode : Obligations.IllegalByteRaisesUnknownOpcode := by
  refine ⟨fun op b1 b2 => ?bytes, fun i s h => exec_illegal_next h s, fun s ⟨hf, hh⟩ hmem => ?step⟩
  case bytes => rw [Instr.isIllegal_iff, opcode_decodeOp]
  case step =>
    have hill : (fetchInstr s).isIllegal = true := (Instr.isIllegal_iff _).2 (by rwa [fetchInstr, opcode_decodeOp])
    rw [step_of_running hf hh, exec_illegal_next hill, fetchInstr, opcode_decodeOp]

/-- Settles O31: each condition says that its flag is set, or that it is clear. -/
theorem conditionsReadOneFlag : Obligations.ConditionsReadOneFlag := by
  intro s a
  exact ⟨exec_jcc_pc (cc := .nz) (by simp [Flags.cond]) a, exec_jcc_pc (cc := .z) Iff.rfl a,
    exec_jcc_pc (cc := .nc) (by simp [Flags.cond]) a, exec_jcc_pc (cc := .c) Iff.rfl a,
    exec_jcc_pc (cc := .po) (by simp [Flags.cond]) a, exec_jcc_pc (cc := .pe) Iff.rfl a,
    exec_jcc_pc (cc := .p) (by simp [Flags.cond]) a, exec_jcc_pc (cc := .m) Iff.rfl a⟩

end

section
/-! What the step of a halted and of a running core answers (R130, R131), and that every call answers a next state. -/

namespace Sys2Proof.Machine

theorem step_of_halted {s : State} (hf : s.fault = none) (hh : s.halt = true) :
    step s = .next { s with out := { cycles := some Config.haltIdleCycles, events := [] } } := by
  simp [step, idleStep, hf, hh]

/-- The three bytes at PC decode to the instruction fetched from them, however many of them it has. -/
theorem decode_fetched (s : State) :
    ∃ rest, decode [s.readByte s.pc, s.readByte (s.pc + 1), s.readByte (s.pc + 2)] = .ok (fetchInstr s, rest) := by
  obtain ⟨rest, h⟩ := encode_decodeOp_prefix (s.readByte s.pc) (s.readByte (s.pc + 1)) (s.readByte (s.pc + 2))
  exact ⟨rest, h ▸ decodeOfEncodeIsTheInstruction (fetchInstr s) rest⟩

/-! ## Every call answers -/

theorem Flow.finish_answers (f : Flow) (n : Nat) : ∃ t, f.finish n = .next t := by
  cases f <;> exact ⟨_, rfl⟩

/-- No instruction faults or is refused: each completes, or finishes a flow that may have stopped. -/
theorem exec_answers (i : Instr) (s : State) : ∃ t, exec i s = .next t := by
  apply exec_shared (P := fun r => ∃ t, r = .next t)
  case jcc | rcc =>
    intros
    simp only [jumpIf, returnIf]
    split <;> exact ⟨_, rfl⟩
  case ccc =>
    intro cc a
    unfold callIf
    split
    · exact Flow.finish_answers _ _
    · exact ⟨_, rfl⟩
  case movMR | mviM | sta | shld | stax | inrM | dcrM | call | push | xthl | ill =>
    intros
    exact Flow.finish_answers _ _
  all_goals
    intros
    exact ⟨_, rfl⟩

theorem step_answers (s : State) : ∃ t, step s = .next t := by
  cases hf : s.fault with
  | some e => exact ⟨_, step_of_stopped hf⟩
  | none =>
    cases hh : s.halt with
    | true => exact ⟨_, step_of_halted hf hh⟩
    | false => exact step_of_running hf hh ▸ exec_answers _ _

theorem unlessStopped_answers (s : State) {r : Result} (hr : ∃ t, r = .next t) : ∃ t, unlessStopped s r = .next t := by
  unfold unlessStopped
  split
  · exact ⟨_, rfl⟩
  · exact hr

/-- An interrupt with a vector of R352 is accepted, or stops at its push, or is ignored. -/
theorem raiseInterrupt_answers {v : Byte} (hv : v.toNat ≤ 7) (s : State) : ∃ t, raiseInterrupt v s = .next t := by
  apply unlessStopped_answers
  rw [if_neg (by omega)]
  split
  · cases acceptInterrupt v.toNat s <;> exact ⟨_, rfl⟩
  · exact ⟨_, rfl⟩

theorem loadImage_answers (bytes : List Byte) (origin : Word) (s : State) : ∃ t, loadImage bytes origin s = .next t := by
  apply unlessStopped_answers
  split <;> exact ⟨_, rfl⟩

end Sys2Proof.Machine
end

section
open Sys2Proof Sys2Proof.Machine

/-- Settles O4: the bytes at PC decode to one instruction, which is the fetched one. -/
theorem stepRunsTheDecodedInstruction : Obligations.StepRunsTheDecodedInstruction := by
  intro s i rest ⟨hf, hh⟩ h
  obtain ⟨rest', h'⟩ := decode_fetched s
  rw [h'] at h
  cases h
  exact step_of_running hf hh

/-- Settles O6: it is what the step of a halted core answers. -/
theorem haltedStepOnlyReportsIdleCycles : Obligations.HaltedStepOnlyReportsIdleCycles :=
  fun _ hf hh => step_of_halted hf hh

/-- Settles O58, by the step, which answers from every state, and call by call. -/
theorem everyCallAnswers : Obligations.EveryCallAnswers := by
  refine ⟨step_answers, fun c s hc => ?_⟩
  cases c with
  | execute => exact step_answers s
  | raise v => exact raiseInterrupt_answers (hc v rfl) s
  | loadImage bytes origin => exact loadImage_answers bytes origin s
  | setInterruptsEnabled | setInputPort => exact unlessStopped_answers s ⟨_, rfl⟩
  | readMemory | readLatch | readFault => exact ⟨s, rfl⟩

end

section
/-! The cycle count of a completed step, as its meaning reports it, is the table's (R133, R395, R396). -/

namespace Sys2Proof.Machine

/-- An answer that records no error reports the count `c`, and there is one. -/
def ReportsCycles (c : Option Nat) (r : Result) : Prop :=
  ∀ t, r = .next t → t.fault = none → t.out.cycles ≠ none ∧ t.out.cycles = c

/-- Where a flow has stopped, an error is recorded. -/
def Flow.StopsFaulted : Flow → Prop
  | .go _ => True
  | .stop t => t.fault ≠ none

theorem Flow.StopsFaulted.andThen {f : Flow} {k : State → Flow} (hf : f.StopsFaulted) (hk : ∀ t, (k t).StopsFaulted) :
    (f.andThen k).StopsFaulted :=
  match f with
  | .go t => hk t
  | .stop _ => hf

theorem memWrite_stopsFaulted (a : Word) (v : Byte) (pc0 : Word) (s : State) : (memWrite a v pc0 s).StopsFaulted := by
  obtain ⟨-, e⟩ | ⟨-, e⟩ := memWrite_cases a v pc0 s <;> simp [e, Flow.StopsFaulted]

theorem memWrite16_stopsFaulted (a v pc0 : Word) (s : State) : (memWrite16 a v pc0 s).StopsFaulted :=
  (memWrite_stopsFaulted _ _ _ _).andThen fun _ => memWrite_stopsFaulted _ _ _ _

theorem push16_stopsFaulted (hi lo : Byte) (pc0 : Word) (s : State) : (push16 hi lo pc0 s).StopsFaulted :=
  (memWrite_stopsFaulted _ _ _ _).andThen fun _ => (memWrite_stopsFaulted _ _ _ _).andThen fun _ => trivial

theorem complete_reportsCycles {c : Option Nat} {n : Nat} {s : State} (hc : c = some n) :
    ReportsCycles c (complete n s) := by
  intro t h _
  simp [complete_next h, hc]

theorem Flow.StopsFaulted.reportsCycles {c : Option Nat} {f : Flow} {n : Nat} (hf : f.StopsFaulted) (hc : c = some n) :
    ReportsCycles c (f.finish n) := by
  intro t h ht
  obtain ⟨u, -, rfl⟩ | rfl := Flow.finish_next h
  · simp [hc]
  · exact absurd ht hf

theorem callTo_reportsCycles {c : Option Nat} {n : Nat} (hc : c = some n) (len : Nat) (a : Word) (s : State) :
    ReportsCycles c (callTo len n a s) :=
  Flow.StopsFaulted.reportsCycles (.andThen (push16_stopsFaulted _ _ _ _) fun _ => trivial) hc

/-- The rows with two counts, and the path each is for (R396). -/
theorem exec_reportsCycles_of_cond {i : Instr} {cc : Cond} {a : Word} (hi : i = jccInstr cc a ∨ i = cccInstr cc a ∨ i = rccInstr cc)
    (s : State) : ReportsCycles (if s.flags.cond cc then cyclesOf i else cyclesNotTakenOf i) (exec i s) := by
  obtain rfl | rfl | rfl := hi
  · rw [exec_jcc, jumpIf]
    split <;> cases cc <;> exact complete_reportsCycles rfl
  · rw [exec_ccc, callIf]
    split
    · cases cc <;> exact callTo_reportsCycles rfl _ _ s
    · cases cc <;> exact complete_reportsCycles rfl
  · rw [exec_rcc, returnIf]
    split <;> cases cc <;> exact complete_reportsCycles rfl

/-- The rows with one count (R395), family by family. -/
theorem exec_reportsCycles {i : Instr} (hi : cyclesNotTakenOf i = none) (s : State) : ReportsCycles (cyclesOf i) (exec i s) := by
  cases i.family with
  | jcc cc | ccc cc | rcc cc => cases cc <;> cases hi
  | nop | lhld | lda | rlc | rrc | ral | rar | daa | cma | stc | cmc | hlt | ret | pchl | sphl | jmp | outPort | inPort | xchg
  | di | ei => exact complete_reportsCycles rfl
  | lxi p | dad p | ldax p | inx p | dcx p | inrReg p | dcrReg p | mviReg p | movRegM p | aluM p | aluImm p | pop p =>
    cases p <;> exact complete_reportsCycles rfl
  | movRegReg p q | aluReg p q => cases p <;> cases q <;> exact complete_reportsCycles rfl
  | call a => exact callTo_reportsCycles rfl _ _ s
  | rst n => fin_cases n <;> exact callTo_reportsCycles rfl _ _ s
  | push p => cases p <;> exact (push16_stopsFaulted _ _ _ _).reportsCycles rfl
  | stax p | movMReg p => cases p <;> exact (memWrite_stopsFaulted _ _ _ _).reportsCycles rfl
  | mviM | sta => exact (memWrite_stopsFaulted _ _ _ _).reportsCycles rfl
  | shld => exact (memWrite16_stopsFaulted _ _ _ _).reportsCycles rfl
  | inrM | dcrM => exact Flow.StopsFaulted.reportsCycles (.andThen (memWrite_stopsFaulted _ _ _ _) fun _ => trivial) rfl
  | xthl => exact Flow.StopsFaulted.reportsCycles (.andThen (memWrite16_stopsFaulted _ _ _ _) fun _ => trivial) rfl
  | illegal i hill =>
    intro t h ht
    rw [exec_illegal_next hill] at h
    cases h
    cases ht

end Sys2Proof.Machine
end

section
open Sys2Proof Sys2Proof.Machine

/-- Settles O60: the count a meaning reports is compared with its row, family by family and path by path. -/
theorem reportedCyclesAreTheTables : Obligations.ReportedCyclesAreTheTables :=
  ⟨fun _ s t _ h ht hi => (exec_reportsCycles hi s t h ht).symm, fun _ _ _ s t hi _ h ht => exec_reportsCycles_of_cond hi s t h ht⟩

end

section
/-! ADD and DAA in numbers (R142, R144, R148, R180), and DAA after an addition of packed BCD bytes. -/

namespace Sys2Proof.Machine

/-- DAA adds the corrections `lo` and `hi` of its two tests; CY says whether the second was made, AC what the first carried out
of bit 3 (R148). -/
theorem decimalAdjust_eq {a : Byte} {f : Flags} {lo hi : Nat}
    (hlo : lo = if 9 < a.toNat % 16 ∨ f.ac = true then 0x06 else 0)
    (hhi : hi = if 9 < (a.toNat + lo) / 16 ∨ f.cy = true then 0x60 else 0) :
    decimalAdjust a f = (BitVec.ofNat 8 (a.toNat + lo + hi),
      setSzp (BitVec.ofNat 8 (a.toNat + lo + hi)) { f with cy := decide (hi = 0x60), ac := decide (15 < a.toNat % 16 + lo) }) := by
  have hlow : (if (a &&& 0x0F).toNat > 9 || f.ac then (0x06 : Byte) else 0) = BitVec.ofNat 8 lo := by
    simp only [hlo, low_nibble_toNat, gt_iff_lt, Bool.or_eq_true, decide_eq_true_eq]
    split <;> rfl
  have hlt : lo < 16 := by rw [hlo]; split <;> decide
  have htoNat : (BitVec.ofNat 8 lo).toNat = lo := by rw [BitVec.toNat_ofNat]; omega
  have hac : auxCarry a (BitVec.ofNat 8 lo) false = decide (15 < a.toNat % 16 + lo) := by
    rw [Bool.eq_iff_iff, auxCarry_iff, htoNat, Nat.mod_eq_of_lt hlt, decide_eq_true_iff]
    rfl
  simp only [decimalAdjust, hlow, htoNat, hac]
  by_cases h : 9 < (a.toNat + lo) / 16 ∨ f.cy = true
  · simp [h, hhi]
  · obtain ⟨hhigh, hcy⟩ := not_or.1 h
    simp [hhigh, hcy, hhi]

/-- ADD's flags in numbers: CY and AC are the carries out of bits 7 and 3 (R180, R142, R144). -/
theorem addResult_eq (a b : Byte) (c : Bool) (f : Flags) :
    addResult a b c f = (BitVec.ofNat 8 (a.toNat + b.toNat + c.toNat),
      setSzp (BitVec.ofNat 8 (a.toNat + b.toNat + c.toNat)) { f with
        cy := decide (255 < a.toNat + b.toNat + c.toNat), ac := decide (15 < a.toNat % 16 + b.toNat % 16 + c.toNat) }) := by
  have hac : auxCarry a b c = decide (15 < a.toNat % 16 + b.toNat % 16 + c.toNat) := by
    rw [Bool.eq_iff_iff, auxCarry_iff, decide_eq_true_iff]
  rw [← hac]
  rfl

@[simp] theorem setSzp_cy (v : Byte) (f : Flags) : (setSzp v f).cy = f.cy := rfl
@[simp] theorem setSzp_ac (v : Byte) (f : Flags) : (setSzp v f).ac = f.ac := rfl

/-- What an instruction leaves that writes one register and the flags. -/
theorem complete_setReg_setFlags (s : State) (len n : Nat) (r : Reg) (v : Byte) (f : Flags) :
    ∃ t, complete n (((s.enter len).setReg r v).setFlags f) = .next t ∧ t.regs = s.regs.set r v ∧ t.flags = f ∧
      OnlyRegsAndFlags [r] s t ∧ Advances len n s t := by
  refine ⟨_, rfl, rfl, rfl, ⟨fun q hq => ?regs, rfl, fun _ => rfl, ⟨rfl, rfl, rfl, rfl⟩, rfl, rfl, rfl, rfl⟩, rfl, rfl⟩
  exact Regs.set_get_other s r q v (by simpa using hq)

/-- DAA after the addition of two packed BCD bytes adds 6 to each digit that carries in the decimal sum; `k` and `m` are the
carries out of the low and of the high digit. -/
theorem decimalAdjust_addResult_bcd {a b : Byte} {f : Flags} {r : Byte × Flags} (ha : isBcd a) (hb : isBcd b)
    (hr : r = decimalAdjust (addResult a b false f).1 (addResult a b false f).2) :
    isBcd r.1 ∧ bcdValue r.1 + 100 * r.2.cy.toNat = bcdValue a + bcdValue b := by
  obtain ⟨ha1, ha0⟩ := ha
  obtain ⟨hb1, hb0⟩ := hb
  obtain ⟨k, hk⟩ : ∃ k, k = (a.toNat % 16 + b.toNat % 16 + 6) / 16 := ⟨_, rfl⟩
  obtain ⟨m, hm⟩ : ∃ m, m = (a.toNat / 16 + b.toNat / 16 + k + 6) / 16 := ⟨_, rfl⟩
  have hkm : (k = 0 ∨ k = 1) ∧ (m = 0 ∨ m = 1) := by omega
  have hlo : 6 * k =
      if 9 < (addResult a b false f).1.toNat % 16 ∨ (addResult a b false f).2.ac = true then 0x06 else 0 := by
    simp only [addResult_eq, BitVec.toNat_ofNat, setSzp_ac, Bool.toNat_false, decide_eq_true_eq]
    split <;> omega
  have hhi : 0x60 * m =
      if 9 < ((addResult a b false f).1.toNat + 6 * k) / 16 ∨ (addResult a b false f).2.cy = true then 0x60 else 0 := by
    simp only [addResult_eq, BitVec.toNat_ofNat, setSzp_cy, Bool.toNat_false, decide_eq_true_eq]
    split <;> omega
  rw [decimalAdjust_eq hlo hhi] at hr
  have hval : r.1.toNat = (a.toNat + b.toNat + 6 * k + 0x60 * m) % 256 := by simp [hr, addResult_eq, Nat.add_assoc]
  have hcy : r.2.cy.toNat = m := by obtain rfl | rfl := hkm.2 <;> simp [hr]
  simp only [isBcd, bcdValue, hval, hcy]
  obtain ⟨rfl | rfl, rfl | rfl⟩ := hkm <;> omega

end Sys2Proof.Machine
end

section
open Sys2Proof Sys2Proof.Machine

/-- Settles O26: the frame is that of an instruction that writes A and the flags, and these are DAA's in numbers. -/
theorem daaAdjustsInTwoAdditions : Obligations.DaaAdjustsInTwoAdditions := by
  intro s lo hi hlo hhi
  obtain ⟨t, h, hregs, hflags, honly, hadv⟩ := complete_setReg_setFlags s 1 4 .a (decimalAdjust s.regs.a s.flags).1
    (decimalAdjust s.regs.a s.flags).2
  have ha : t.regs.a = BitVec.ofNat 8 (s.regs.a.toNat + lo + hi) := by rw [hregs, decimalAdjust_eq hlo hhi]; rfl
  rw [decimalAdjust_eq hlo hhi, ← ha] at hflags
  refine ⟨t, h, ?a, ?cy, ?ac, ?szp, honly, hadv, rfl⟩
  case a => rw [ha, BitVec.toNat_ofNat]
  case cy => simp [hflags]
  case ac => simp [hflags]
  case szp => exact hflags ▸ setSzp_szpOf _ _

/-- Settles O27: A and the flags after ADD B are what DAA adjusts. -/
theorem daaAfterAddGivesPackedBcd : Obligations.DaaAfterAddGivesPackedBcd :=
  fun _ ha hb => ⟨_, _, rfl, rfl, decimalAdjust_addResult_bcd ha hb rfl⟩

end

section
/-! What a data transfer leaves (41_data_transfer.md): the frame of an instruction that writes registers alone, and of one that
stores one byte or two, with the stops of a store into ROM (R342, R347). -/

namespace Sys2Proof.Machine

/-! ## Register loads -/

/-- A write to one of the registers `rs` keeps the others. -/
theorem KeepsRegs.setReg {rs : List Reg} {s t : State} (h : KeepsRegs rs s t) {r : Reg} (hr : r ∈ rs) (v : Byte) :
    KeepsRegs rs s (t.setReg r v) := by
  intro q hq
  have hne : q ≠ r := fun e => hq (e ▸ hr)
  rw [Regs.set_get_other t r q v hne, h q hq]

/-- The frame of an instruction that writes registers among `rs` and the flags. -/
theorem complete_regs_flags (s : State) (len n : Nat) {x : Regs} {rs : List Reg} (hx : KeepsRegs rs s { s with regs := x })
    (f : Flags) :
    ∃ t, complete n { s.enter len with regs := x, flags := f } = .next t ∧ t.regs = x ∧ t.flags = f ∧
      OnlyRegsAndFlags rs s t ∧ Advances len n s t :=
  ⟨_, rfl, rfl, rfl, ⟨hx, rfl, fun _ => rfl, ⟨rfl, rfl, rfl, rfl⟩, rfl, rfl, rfl, rfl⟩, rfl, rfl⟩

theorem complete_setReg (s : State) (len n : Nat) (r : Reg) (v : Byte) :
    ∃ t, complete n ((s.enter len).setReg r v) = .next t ∧ t.getReg r = v ∧ KeepsFlags s t ∧
      OnlyRegsAndFlags [r] s t ∧ Advances len n s t := by
  obtain ⟨t, h, hregs, hflags, honly, hadv⟩ := complete_setReg_setFlags s len n r v s.flags
  have hv : t.getReg r = v := (State.getReg_congr (s.setReg r v) t hregs r).trans (Regs.set_get_same s r v)
  exact ⟨t, h, hv, hflags, honly, hadv⟩

theorem complete_setReg_setReg (s : State) (len n : Nat) {q r : Reg} (hne : q ≠ r) (v w : Byte) :
    ∃ t, complete n (((s.enter len).setReg q v).setReg r w) = .next t ∧ t.getReg q = v ∧ t.getReg r = w ∧
      KeepsFlags s t ∧ OnlyRegsAndFlags [q, r] s t ∧ Advances len n s t := by
  have hkeep : KeepsRegs [q, r] s ((s.setReg q v).setReg r w) :=
    KeepsRegs.setReg (KeepsRegs.setReg (fun _ _ => rfl) (by simp) v) (by simp) w
  obtain ⟨t, h, hregs, hflags, honly, hadv⟩ := complete_regs_flags s len n hkeep s.flags
  have hget := State.getReg_congr ((s.setReg q v).setReg r w) t hregs
  refine ⟨t, h, ?q, ?r, hflags, honly, hadv⟩
  case q => rw [hget, Regs.set_get_other _ _ _ _ hne, Regs.set_get_same]
  case r => rw [hget, Regs.set_get_same]

@[simp] theorem hiByte_readWord (s : State) (a : Word) : hiByte (s.readWord a) = s.readByte (a + 1) := hiByte_pairOf _ _
@[simp] theorem loByte_readWord (s : State) (a : Word) : loByte (s.readWord a) = s.readByte a := loByte_pairOf _ _
@[simp] theorem hiByte_hl (s : State) : hiByte s.hl = s.regs.h := hiByte_pairOf _ _
@[simp] theorem loByte_hl (s : State) : loByte s.hl = s.regs.l := loByte_pairOf _ _
@[simp] theorem hiByte_de (s : State) : hiByte s.de = s.regs.d := hiByte_pairOf _ _
@[simp] theorem loByte_de (s : State) : loByte s.de = s.regs.e := loByte_pairOf _ _

/-! ## Stores of one byte -/

/-- A store outside ROM writes its one byte and nothing else (R73). -/
theorem finish_memWrite_ram {s : State} {a : Word} (hm : Memory.wf s.mem = true) (ha : 0x1FFF < a.toNat) (len n : Nat) (v : Byte) :
    ∃ t, (memWrite a v s.pc (s.enter len)).finish n = .next t ∧ t.readByte a = v ∧ KeepsFlags s t ∧
      OnlyMemAndFlags [a] s t ∧ Advances len n s t := by
  rw [memWrite_ram v s.pc _ ha]
  refine ⟨_, rfl, State.read_write_same s a v hm, rfl,
    ⟨fun _ _ => rfl, rfl, fun x hx => ?other, ⟨rfl, rfl, rfl, rfl⟩, rfl, rfl, rfl, rfl⟩, rfl, rfl⟩
  case other => exact State.read_write_other s a x v (by simpa using hx)

/-- A store into ROM stops the instruction (R342). -/
theorem finish_memWrite_rom {a : Word} (ha : a.toNat ≤ 0x1FFF) (s : State) (len n : Nat) (v : Byte) :
    (memWrite a v s.pc (s.enter len)).finish n = .next (stoppedAtWrite s len a v) := by
  rw [memWrite_rom v s.pc _ ha]
  rfl

/-! ## Stores of two bytes -/

theorem memWrite16_ram {a : Word} (ha : 0x1FFF < a.toNat) (ha' : 0x1FFF < (a + 1).toNat) (v pc0 : Word) (s : State) :
    memWrite16 a v pc0 s = .go ((s.poke a (loByte v)).poke (a + 1) (hiByte v)) := by
  rw [memWrite16, memWrite_ram _ _ _ ha, Flow.andThen_go, memWrite_ram _ _ _ ha']
  rfl

/-- Two bytes stored at different addresses read back, and no other byte changes. -/
theorem readByte_poke_poke {s : State} {a b : Word} (hm : Memory.wf s.mem = true) (hne : a ≠ b) (v w : Byte) :
    ((s.poke a v).poke b w).readByte a = v ∧ ((s.poke a v).poke b w).readByte b = w ∧
      KeepsMemBut [a, b] s ((s.poke a v).poke b w) := by
  refine ⟨?fst, State.readByte_poke_same _ b w (State.memWf_poke s a v hm), fun x hx => ?other⟩
  case fst => rw [State.readByte_poke_other _ b a w hne, State.readByte_poke_same s a v hm]
  case other =>
    obtain ⟨hxa, hxb⟩ : x ≠ a ∧ x ≠ b := by simpa using hx
    rw [State.readByte_poke_other _ b x w hxb, State.readByte_poke_other s a x v hxa]

/-- A 16-bit store whose two addresses lie outside ROM writes the low byte, then the high one (R79). -/
theorem finish_memWrite16_ram {s : State} {a : Word} (hm : Memory.wf s.mem = true) (ha : 0x1FFF < a.toNat)
    (ha' : 0x1FFF < (a + 1).toNat) (len n : Nat) (v : Word) :
    ∃ t, (memWrite16 a v s.pc (s.enter len)).finish n = .next t ∧ t.readByte a = loByte v ∧ t.readByte (a + 1) = hiByte v ∧
      KeepsFlags s t ∧ OnlyMemAndFlags [a, a + 1] s t ∧ Advances len n s t := by
  have hne : a ≠ a + 1 := by bv_omega
  obtain ⟨hlo, hhi, hother⟩ := readByte_poke_poke hm hne (loByte v) (hiByte v)
  rw [memWrite16_ram ha ha']
  exact ⟨_, rfl, hlo, hhi, rfl, ⟨fun _ _ => rfl, rfl, hother, ⟨rfl, rfl, rfl, rfl⟩, rfl, rfl, rfl, rfl⟩, rfl, rfl⟩

/-- A 16-bit store whose first byte goes to ROM stops there. -/
theorem finish_memWrite16_rom {a : Word} (ha : a.toNat ≤ 0x1FFF) (s : State) (len n : Nat) (v : Word) :
    (memWrite16 a v s.pc (s.enter len)).finish n = .next (stoppedAtWrite s len a (loByte v)) := by
  rw [memWrite16, memWrite_rom _ _ _ ha]
  rfl

/-- A 16-bit store whose second byte alone goes to ROM stops there, its first byte stored (R347). -/
theorem finish_memWrite16_secondRom {a : Word} (ha : 0x1FFF < a.toNat) (ha' : (a + 1).toNat ≤ 0x1FFF) (s : State) (len n : Nat)
    (v : Word) : (memWrite16 a v s.pc (s.enter len)).finish n =
      .next (stoppedAtSecondWrite s len a (loByte v) (a + 1) (hiByte v)) := by
  rw [memWrite16, memWrite_ram _ _ _ ha, Flow.andThen_go, memWrite_rom _ _ _ ha']
  rfl

/-! ## The byte of MOV r,M (R105) -/

theorem encodes_mov_reg_m (dst : Reg) : Encodes (movInstr (.reg dst) .m) (0x46 + 8 * regCode dst) [] := by cases dst <;> rfl

end Sys2Proof.Machine
end

section
open Sys2Proof Sys2Proof.Machine

/-- Settles O8: it is a load of one register, with the value that another register holds. -/
theorem movRegisterToRegister : Obligations.MovRegisterToRegister := by
  intro dst src s
  obtain ⟨t, h, hv, hflags, honly, hadv⟩ := complete_setReg s 1 5 dst (s.getReg src)
  exact ⟨t, (exec_mov_reg_reg dst src s).trans h, hv, hflags, honly, hadv, encodes_mov (.reg dst) (.reg src)⟩

/-- Settles O9: the byte is read with the old HL, before the register is written. -/
theorem movMemoryToRegister : Obligations.MovMemoryToRegister := by
  intro dst s
  obtain ⟨t, h, hv, hflags, honly, hadv⟩ := complete_setReg s 1 7 dst (s.readByte s.hl)
  exact ⟨t, (exec_mov_reg_m dst s).trans h, hv, hflags, honly, hadv, encodes_mov_reg_m dst⟩

/-- Settles O10, by the one-byte store at HL on its two sides of the end of ROM. -/
theorem movRegisterToMemory : Obligations.MovRegisterToMemory := by
  intro src s hm
  rw [exec_mov_m_reg]
  exact ⟨fun h => finish_memWrite_ram hm h 1 7 _, fun h => finish_memWrite_rom h s 1 7 _, encodes_mov .m (.reg src)⟩

/-- Settles O11: MVI r is a load of one register, MVI M a one-byte store at HL. -/
theorem mviLoadsTheImmediate : Obligations.MviLoadsTheImmediate := by
  refine ⟨fun dst v s => ?_, fun v s hm => ⟨fun h => ?_, fun h => ?_⟩, fun dst v => encodes_mvi v (.reg dst), fun v => rfl⟩
  · exact exec_mvi_reg dst v s ▸ complete_setReg s 2 7 dst v
  · exact finish_memWrite_ram hm h 2 10 v
  · exact finish_memWrite_rom h s 2 10 v

/-- Settles O12: LXI of a pair loads its two registers; LXI SP writes SP alone. -/
theorem lxiLoadsThePair : Obligations.LxiLoadsThePair := by
  refine ⟨fun v s => ?bc, fun v s => ?de, fun v s => ?hl, fun v s => ?sp, encodes_lxi⟩
  case bc => exact complete_setReg_setReg s 3 10 (q := .b) (r := .c) (by decide) (hiByte v) (loByte v)
  case de => exact complete_setReg_setReg s 3 10 (q := .d) (r := .e) (by decide) (hiByte v) (loByte v)
  case hl => exact complete_setReg_setReg s 3 10 (q := .h) (r := .l) (by decide) (hiByte v) (loByte v)
  case sp =>
    exact ⟨_, rfl, rfl, fun _ _ => rfl, rfl, fun _ => rfl, ⟨rfl, rfl, rfl, rfl⟩, ⟨rfl, rfl, rfl, rfl⟩, rfl, rfl⟩

/-- Settles O14: the three are the one-byte store of A, at the operand, at BC and at DE. -/
theorem staAndStaxStoreA : Obligations.StaAndStaxStoreA := by
  intro s hm
  exact ⟨fun _ h => finish_memWrite_ram hm h 3 13 _, fun _ h => finish_memWrite_rom h s 3 13 _,
    fun h => finish_memWrite_ram hm h 1 7 _, fun h => finish_memWrite_rom h s 1 7 _,
    fun h => finish_memWrite_ram hm h 1 7 _, fun h => finish_memWrite_rom h s 1 7 _, fun _ => rfl, rfl, rfl⟩

/-- Settles O16: it is the two-byte store of HL, by where its two addresses lie. -/
theorem shldStoresHl : Obligations.ShldStoresHl := by
  intro a s hm
  rw [← hiByte_hl s, ← loByte_hl s]
  exact ⟨fun h h' => finish_memWrite16_ram hm h h' 3 16 s.hl, fun h => finish_memWrite16_rom h s 3 16 s.hl,
    fun h h' => finish_memWrite16_secondRom h h' s 3 16 s.hl, rfl⟩

/-- Settles O13: the three are a load of A. -/
theorem ldaAndLdaxLoadA : Obligations.LdaAndLdaxLoadA := by
  intro s
  exact ⟨fun a => complete_setReg s 3 13 .a (s.readByte a), complete_setReg s 1 7 .a (s.readByte s.bc),
    complete_setReg s 1 7 .a (s.readByte s.de), fun _ => rfl, rfl, rfl⟩

/-- Settles O15: it loads the pair HL with the word at the address, whose halves are the two bytes (R78). -/
theorem lhldLoadsHl : Obligations.LhldLoadsHl := by
  intro a s
  obtain ⟨t, h, hh, hl, hflags, honly, hadv⟩ := complete_setReg_setReg s 3 16 (q := .h) (r := .l) (by decide)
    (hiByte (s.readWord a)) (loByte (s.readWord a))
  rw [hiByte_readWord] at hh
  rw [loByte_readWord] at hl
  exact ⟨t, h, hl, hh, hflags, honly, hadv, rfl⟩

/-- Settles O17: both pairs are written, with the halves of the old values. -/
theorem xchgExchangesDeAndHl : Obligations.XchgExchangesDeAndHl := by
  intro s
  have hkeep : KeepsRegs [.d, .e, .h, .l] s ((s.setRp16 .de s.hl).setRp16 .hl s.de) :=
    KeepsRegs.setReg (KeepsRegs.setReg (KeepsRegs.setReg (KeepsRegs.setReg (fun _ _ => rfl) (by simp) _) (by simp) _)
      (by simp) _) (by simp) _
  obtain ⟨t, h, hregs, hflags, honly, hadv⟩ := complete_regs_flags s 1 4 hkeep s.flags
  refine ⟨t, h, ?d, ?e, ?h, ?l, hflags, honly, hadv, rfl⟩
  all_goals simp [hregs, State.setRp16, Regs.set]

end

section
/-! What an arithmetic or logical instruction leaves (42_arith_logic.md): the frame of each shared operation, and its result and
flags in numbers. -/

namespace Sys2Proof.Machine

/-! ## A result in one register and the flags -/

/-- What an instruction that writes one register and the flags leaves there, read back. -/
theorem complete_setReg_setFlags_read (s : State) (len n : Nat) (r : Reg) (v : Byte) (f : Flags) :
    ∃ t, complete n (((s.enter len).setReg r v).setFlags f) = .next t ∧ t.getReg r = v ∧ t.flags = f ∧
      OnlyRegsAndFlags [r] s t ∧ Advances len n s t := by
  obtain ⟨t, h, hregs, hframe⟩ := complete_setReg_setFlags s len n r v f
  exact ⟨t, h, (State.getReg_congr (s.setReg r v) t hregs r).trans (Regs.set_get_same s r v), hframe⟩

/-- A register that reads as before is not written. -/
theorem OnlyRegsAndFlags.of_unchanged {r : Reg} {s t : State} (h : OnlyRegsAndFlags [r] s t) (hr : t.getReg r = s.getReg r) :
    OnlyRegsAndFlags [] s t := by
  obtain ⟨hregs, hrest⟩ := h
  refine ⟨fun q _ => ?_, hrest⟩
  by_cases hq : q = r
  · rw [hq, hr]
  · exact hregs q (by simpa using hq)

/-! ## The eight operations on A -/

/-- An operation on A leaves its result in A and the flags and changes nothing else: `P` is what the result makes true. -/
theorem complete_aluInto {op : AluOp} {s : State} {v : Byte} {P : State → Prop}
    (hP : ∀ t, (t.regs.a, t.flags) = aluResult op s.regs.a v s.flags → P t) (len n : Nat) :
    ∃ t, complete n ((s.enter len).aluInto op v) = .next t ∧ P t ∧ OnlyRegsAndFlags [.a] s t ∧ Advances len n s t := by
  obtain ⟨t, h, ha, hflags, hframe⟩ := complete_setReg_setFlags_read s len n .a (aluResult op s.regs.a v s.flags).1
    (aluResult op s.regs.a v s.flags).2
  exact ⟨t, h, hP t (Prod.ext ha hflags), hframe⟩

/-- The register forms and the M form (R135), with their cycles (R395). -/
theorem exec_alu (op : AluOp) (s : State) :
    ∀ o, exec (aluInstr op o) s = complete (aluCycles o) ((s.enter 1).aluInto op (s.src8 o))
  | .reg r => exec_alu_reg op r s
  | .m => exec_alu_m op s

theorem exec_alu_result {op : AluOp} {s : State} {o : Operand} {P : State → Prop}
    (hP : ∀ t, (t.regs.a, t.flags) = aluResult op s.regs.a (s.src8 o) s.flags → P t) :
    ∃ t, exec (aluInstr op o) s = .next t ∧ P t ∧ OnlyRegsAndFlags [.a] s t ∧ Advances 1 (aluCycles o) s t :=
  exec_alu op s o ▸ complete_aluInto hP 1 (aluCycles o)

theorem exec_aluImm_result (op : AluOp) {s : State} {v : Byte} {P : State → Prop}
    (hP : ∀ t, (t.regs.a, t.flags) = aluResult op s.regs.a v s.flags → P t) :
    ∃ t, exec (aluImmInstr op v) s = .next t ∧ P t ∧ OnlyRegsAndFlags [.a] s t ∧ Advances 2 7 s t :=
  exec_alu_imm op v s ▸ complete_aluInto hP 2 7

/-! ## Results and flags in numbers -/

theorem added_of_addResult {s t : State} {v : Byte} {c : Bool} (h : (t.regs.a, t.flags) = addResult s.regs.a v c s.flags) :
    Added v c.toNat s t := by
  rw [addResult_eq, Prod.mk.injEq] at h
  obtain ⟨ha, hflags⟩ := h
  refine ⟨?value, ?cy, ?ac, ?szp⟩
  case value => rw [ha, BitVec.toNat_ofNat]
  case cy => simp [hflags]
  case ac => simp [hflags]
  case szp => exact ha ▸ hflags ▸ setSzp_szpOf _ _

theorem loByte_toNat (v : Word) : (loByte v).toNat = v.toNat % 256 := by simp [loByte]

theorem borrowFlags_of_subResult {s t : State} {v r : Byte} {c : Bool} (h : (r, t.flags) = subResult s.regs.a v c s.flags) :
    BorrowFlags v c.toNat r s t := by
  obtain ⟨hr, hflags⟩ := Prod.mk.inj h
  have hv := v.isLt
  have ha := s.regs.a.isLt
  have hc := c.toNat_le
  refine ⟨?value, ?cy, ?ac, ?szp⟩
  case value =>
    rw [hr, loByte_toNat, subWide_toNat]
    omega
  case cy =>
    simp only [hflags, setSzp_cy, carry8, subWide_toNat, decide_eq_true_eq]
    omega
  case ac => rw [hflags, setSzp_ac, auxSub_iff]
  case szp => exact hr ▸ hflags ▸ setSzp_szpOf _ _

theorem logicDone_of_logicResult {t : State} {r : Byte} {f : Flags} (h : (t.regs.a, t.flags) = logicResult r f) :
    LogicDone r t := by
  obtain ⟨ha, hflags⟩ := Prod.mk.inj h
  exact ⟨ha, by simp [hflags], by simp [hflags], hflags ▸ setSzp_szpOf _ _⟩

/-- CMP writes A with its old value (R194), so it writes no register. -/
theorem compared_of_aluResult {s t : State} {v : Byte} (h : (t.regs.a, t.flags) = aluResult .cmp s.regs.a v s.flags) :
    t.regs.a = s.regs.a ∧ BorrowFlags v 0 (subResult s.regs.a v false s.flags).1 s t := by
  obtain ⟨ha, hflags⟩ := Prod.mk.inj h
  exact ⟨ha, borrowFlags_of_subResult (c := false) (Prod.ext rfl hflags)⟩

/-! ## INR and DCR -/

/-- The low nibble carries when 1 is added to 15 (R144, R196). -/
theorem incFlags_ac (v : Byte) (f : Flags) : (incFlags v f).ac = true ↔ v.toNat % 16 = 15 := by
  rw [incFlags, setSzp_ac, auxCarry_iff]
  change 15 < v.toNat % 16 + 1 + 0 ↔ _
  omega

/-- DCR adds 0xFF to the low nibble, which carries when it was not 0 (R144, R198). -/
theorem decFlags_ac (v : Byte) (f : Flags) : (decFlags v f).ac = true ↔ v.toNat % 16 ≠ 0 := by
  rw [decFlags, setSzp_ac, auxCarry_iff]
  change 15 < v.toNat % 16 + 15 + 0 ↔ _
  omega

/-- A store outside ROM after which the flags are written (R197, R199). -/
theorem finish_memWrite_setFlags_ram {s : State} {a : Word} (hm : Memory.wf s.mem = true) (ha : 0x1FFF < a.toNat) (len n : Nat)
    (v : Byte) (f : Flags) :
    ∃ t, ((memWrite a v s.pc (s.enter len)).andThen fun u => .go (u.setFlags f)).finish n = .next t ∧ t.readByte a = v ∧
      t.flags = f ∧ OnlyMemAndFlags [a] s t ∧ Advances len n s t := by
  obtain ⟨t, h, hread, -, hframe⟩ := finish_memWrite_ram hm ha len n v
  refine ⟨t.setFlags f, ?_, hread, rfl, hframe⟩
  rw [memWrite_ram v s.pc _ ha] at h ⊢
  cases h
  rfl

/-- A store into ROM stops before the flags are written (R347). -/
theorem finish_memWrite_setFlags_rom {a : Word} (ha : a.toNat ≤ 0x1FFF) (s : State) (len n : Nat) (v : Byte) (f : Flags) :
    ((memWrite a v s.pc (s.enter len)).andThen fun u => .go (u.setFlags f)).finish n = .next (stoppedAtWrite s len a v) := by
  rw [memWrite_rom v s.pc _ ha]
  rfl

/-! ## Pairs -/

/-- What an instruction leaves that writes the two halves of a pair. -/
theorem complete_setPair (s : State) (len n : Nat) {q r : Reg} (hne : q ≠ r) (v : Word) :
    ∃ t, complete n (((s.enter len).setReg q (hiByte v)).setReg r (loByte v)) = .next t ∧ pairOf (t.getReg q) (t.getReg r) = v ∧
      KeepsFlags s t ∧ OnlyRegsAndFlags [q, r] s t ∧ Advances len n s t := by
  obtain ⟨t, h, hhi, hlo, hframe⟩ := complete_setReg_setReg s len n hne (hiByte v) (loByte v)
  exact ⟨t, h, by rw [hhi, hlo, pairOf_hiByte_loByte], hframe⟩

/-- What an instruction leaves that writes HL and of the flags CY alone (R147). -/
theorem complete_setHl_setCy (s : State) (len n : Nat) (v : Word) (cy : Bool) :
    ∃ t, complete n (((s.enter len).setRp16 .hl v).setCy cy) = .next t ∧ t.hl = v ∧ t.flags = { s.flags with cy := cy } ∧
      OnlyRegsAndFlags [.h, .l] s t ∧ Advances len n s t := by
  have hkeep : KeepsRegs [.h, .l] s (s.setRp16 .hl v) :=
    KeepsRegs.setReg (KeepsRegs.setReg (fun _ _ => rfl) (by simp) _) (by simp) _
  obtain ⟨t, h, hregs, hflags, hframe⟩ := complete_regs_flags s len n hkeep { s.flags with cy := cy }
  refine ⟨t, h, ?_, hflags, hframe⟩
  rw [State.hl, hregs]
  exact State.rp16_setRp16 s .hl v

theorem complete_setSp (s : State) (len n : Nat) (v : Word) :
    ∃ t, complete n ((s.enter len).setSp v) = .next t ∧ t.sp = v ∧ KeepsFlags s t ∧ KeepsRegs [] s t ∧ KeepsMem s t ∧
      KeepsControl s t ∧ KeepsIo s t ∧ Advances len n s t :=
  ⟨_, rfl, rfl, rfl, fun _ _ => rfl, fun _ => rfl, ⟨rfl, rfl, rfl, rfl⟩, ⟨rfl, rfl, rfl, rfl⟩, rfl, rfl⟩

end Sys2Proof.Machine
end

section
open Sys2Proof Sys2Proof.Machine

/-- Settles O18: A and the flags take the sum, without a carry in or with CY. -/
theorem addAndAdcAdd : Obligations.AddAndAdcAdd := by
  intro s
  refine ⟨fun o => ?add, fun v => ?adi, fun o => ?adc, fun v => ?aci, fun o => ⟨encodes_alu (n := 0) (by decide) o,
    encodes_alu (n := 1) (by decide) o⟩, fun v => ⟨rfl, rfl⟩⟩
  case add => exact exec_alu_result fun _ => added_of_addResult (c := false)
  case adi => exact exec_aluImm_result .add fun _ => added_of_addResult (c := false)
  case adc => exact exec_alu_result fun _ => added_of_addResult
  case aci => exact exec_aluImm_result .adc fun _ => added_of_addResult

/-- Settles O19: A and the flags take the difference, without a borrow in or with CY. -/
theorem subAndSbbSubtract : Obligations.SubAndSbbSubtract := by
  intro s
  refine ⟨fun o => ?sub, fun v => ?sui, fun o => ?sbb, fun v => ?sbi, fun o => ⟨encodes_alu (n := 2) (by decide) o,
    encodes_alu (n := 3) (by decide) o⟩, fun v => ⟨rfl, rfl⟩⟩
  case sub => exact exec_alu_result fun _ => borrowFlags_of_subResult (c := false)
  case sui => exact exec_aluImm_result .sub fun _ => borrowFlags_of_subResult (c := false)
  case sbb => exact exec_alu_result fun _ => borrowFlags_of_subResult
  case sbi => exact exec_aluImm_result .sbb fun _ => borrowFlags_of_subResult

/-- Settles O20: the flags are those of the difference, and A is written with its old value. -/
theorem compareSetsOnlyFlags : Obligations.CompareSetsOnlyFlags := by
  intro s
  refine ⟨fun o => ?cmp, fun v => ?cpi, encodes_alu (n := 7) (by decide), fun v => rfl⟩
  case cmp =>
    obtain ⟨t, h, ⟨ha, hflags⟩, honly, hadv⟩ := exec_alu_result (op := .cmp) (s := s) (o := o) fun _ => compared_of_aluResult
    exact ⟨t, _, h, hflags, honly.of_unchanged ha, hadv⟩
  case cpi =>
    obtain ⟨t, h, ⟨ha, hflags⟩, honly, hadv⟩ := exec_aluImm_result .cmp (s := s) (v := v) fun _ => compared_of_aluResult
    exact ⟨t, _, h, hflags, honly.of_unchanged ha, hadv⟩

/-- Settles O21: each of the three leaves a logical result, by its own operator. -/
theorem logicalOperationsClearCyAndAc : Obligations.LogicalOperationsClearCyAndAc := by
  intro s
  refine ⟨fun o => ?ana, fun v => ?ani, fun o => ?xra, fun v => ?xri, fun o => ?ora, fun v => ?ori,
    fun o => ⟨encodes_alu (n := 4) (by decide) o, encodes_alu (n := 5) (by decide) o, encodes_alu (n := 6) (by decide) o⟩,
    fun v => ⟨rfl, rfl, rfl⟩⟩
  case ana | xra | ora => exact exec_alu_result fun _ => logicDone_of_logicResult
  case ani => exact exec_aluImm_result .ana fun _ => logicDone_of_logicResult
  case xri => exact exec_aluImm_result .xra fun _ => logicDone_of_logicResult
  case ori => exact exec_aluImm_result .ora fun _ => logicDone_of_logicResult

/-- Settles O22: the count and its flags are written to one register and the flags. -/
theorem inrAndDcrOfARegister : Obligations.InrAndDcrOfARegister := by
  intro r s
  rw [exec_inr_reg, exec_dcr_reg]
  refine ⟨?inr, ?dcr, encodes_inr (.reg r), encodes_dcr (.reg r)⟩
  case inr =>
    obtain ⟨t, h, hv, hflags, hframe⟩ := complete_setReg_setFlags_read s 1 5 r (s.getReg r + 1) (incFlags (s.getReg r) s.flags)
    exact ⟨t, h, hv ▸ BitVec.toNat_add _ _, hv ▸ hflags ▸ setSzp_szpOf _ _, hflags ▸ incFlags_ac _ _, hflags ▸ rfl, hframe⟩
  case dcr =>
    obtain ⟨t, h, hv, hflags, hframe⟩ := complete_setReg_setFlags_read s 1 5 r (s.getReg r - 1) (decFlags (s.getReg r) s.flags)
    have hsub : (s.getReg r - 1).toNat = ((s.getReg r).toNat + 255) % 256 := by rw [BitVec.toNat_sub, Nat.add_comm]; rfl
    exact ⟨t, h, hv ▸ hsub, hv ▸ hflags ▸ setSzp_szpOf _ _, hflags ▸ decFlags_ac _ _, hflags ▸ rfl, hframe⟩

/-- Settles O23: the byte at HL is stored outside ROM, and the flags of the count are written only then. -/
theorem inrAndDcrOfMemory : Obligations.InrAndDcrOfMemory := by
  intro s hm
  refine ⟨fun h => ⟨?inr, ?dcr⟩, fun h => ⟨?inrStops, ?dcrStops⟩, rfl, rfl⟩
  case inr =>
    obtain ⟨t, he, hread, hflags, hframe⟩ := finish_memWrite_setFlags_ram hm h 1 10 (s.readByte s.hl + 1)
      (incFlags (s.readByte s.hl) s.flags)
    exact ⟨t, he, hread, hflags ▸ setSzp_szpOf _ _, hflags ▸ incFlags_ac _ _, hflags ▸ rfl, hframe⟩
  case dcr =>
    obtain ⟨t, he, hread, hflags, hframe⟩ := finish_memWrite_setFlags_ram hm h 1 10 (s.readByte s.hl - 1)
      (decFlags (s.readByte s.hl) s.flags)
    exact ⟨t, he, hread, hflags ▸ setSzp_szpOf _ _, hflags ▸ decFlags_ac _ _, hflags ▸ rfl, hframe⟩
  case inrStops | dcrStops => exact finish_memWrite_setFlags_rom h s 1 10 _ _

/-- Settles O24: both halves of a pair are written with those of the count; the SP forms write SP alone. -/
theorem inxAndDcxCountThePair : Obligations.InxAndDcxCountThePair := by
  intro s
  exact ⟨complete_setPair s 1 5 (q := .b) (r := .c) (by decide) (s.bc + 1),
    complete_setPair s 1 5 (q := .d) (r := .e) (by decide) (s.de + 1),
    complete_setPair s 1 5 (q := .h) (r := .l) (by decide) (s.hl + 1), complete_setSp s 1 5 (s.sp + 1),
    complete_setPair s 1 5 (q := .b) (r := .c) (by decide) (s.bc - 1),
    complete_setPair s 1 5 (q := .d) (r := .e) (by decide) (s.de - 1),
    complete_setPair s 1 5 (q := .h) (r := .l) (by decide) (s.hl - 1), complete_setSp s 1 5 (s.sp - 1),
    fun p => ⟨encodes_inx p, encodes_dcx p⟩⟩

/-- Settles O25: HL takes the sum, and CY alone of the flags is written with the carry of the widened sum. -/
theorem dadAddsToHl : Obligations.DadAddsToHl := by
  intro p s
  obtain ⟨t, h, hhl, hflags, honly, hadv⟩ := complete_setHl_setCy s 1 10 (BitVec.ofNat 16 (s.hl.toNat + (s.rp16 p).toNat))
    (carry16 (s.hl.toNat + (s.rp16 p).toNat))
  refine ⟨t, (exec_dad p s).trans h, ?hl, ?cy, ?others, honly, hadv, encodes_dad p⟩
  case hl => rw [hhl, BitVec.toNat_ofNat]
  case cy => simp [hflags, carry16]
  case others => simp [KeepsAllButCy, hflags]

end

section
/-! What a rotate or flag instruction leaves (43_rotate_flag.md): the frame of an instruction that writes CY alone of the flags, and
the bits each rotate of A gives. -/

namespace Sys2Proof.Machine

/-! ## CY alone of the flags (R147) -/

/-- What an instruction leaves that writes one register and of the flags CY alone. -/
theorem complete_setReg_setCy (s : State) (len n : Nat) (r : Reg) (v : Byte) (cy : Bool) :
    ∃ t, complete n (((s.enter len).setReg r v).setCy cy) = .next t ∧ t.getReg r = v ∧ t.flags.cy = cy ∧
      KeepsAllButCy s t ∧ OnlyRegsAndFlags [r] s t ∧ Advances len n s t := by
  obtain ⟨t, h, hv, hflags, hframe⟩ := complete_setReg_setFlags_read s len n r v { s.flags with cy := cy }
  exact ⟨t, h, hv, by rw [hflags], by simp [KeepsAllButCy, hflags], hframe⟩

/-- What an instruction leaves that writes CY alone. -/
theorem complete_setCy (s : State) (len n : Nat) (cy : Bool) :
    ∃ t, complete n ((s.enter len).setCy cy) = .next t ∧ t.flags.cy = cy ∧ KeepsAllButCy s t ∧
      OnlyRegsAndFlags [] s t ∧ Advances len n s t := by
  obtain ⟨t, h, -, hflags, hframe⟩ := complete_regs_flags s len n (x := s.regs) (rs := []) (fun _ _ => rfl)
    { s.flags with cy := cy }
  exact ⟨t, h, by rw [hflags], by simp [KeepsAllButCy, hflags], hframe⟩

/-- The four rotates: A and CY take what `f` gives, and nothing else changes. -/
theorem rotateA_next (f : Byte → Bool → Byte × Bool) (s : State) :
    ∃ t, rotateA f s = .next t ∧ t.regs.a = (f s.regs.a s.flags.cy).1 ∧ t.flags.cy = (f s.regs.a s.flags.cy).2 ∧
      KeepsAllButCy s t ∧ OnlyRegsAndFlags [.a] s t ∧ Advances 1 4 s t :=
  complete_setReg_setCy s 1 4 .a (f s.regs.a s.flags.cy).1 (f s.regs.a s.flags.cy).2

/-! ## The bits of the four rotates: RLC is RAL with bit 7 for CY, RRC is RAR with bit 0 for CY -/

theorem getLsbD_rotateLeftCarry_zero (a : Byte) (c : Bool) : (rotateLeftCarry a c).1.getLsbD 0 = c := by simp [rotateLeftCarry]

theorem getLsbD_rotateLeftCarry_succ (a : Byte) (c : Bool) {k : Nat} (hk : k < 7) :
    (rotateLeftCarry a c).1.getLsbD (k + 1) = a.getLsbD k := by
  interval_cases k <;> simp [rotateLeftCarry]

theorem getLsbD_rotateRightCarry_seven (a : Byte) (c : Bool) : (rotateRightCarry a c).1.getLsbD 7 = c := by
  simp [rotateRightCarry]

theorem getLsbD_rotateRightCarry_of_lt (a : Byte) (c : Bool) {k : Nat} (hk : k < 7) :
    (rotateRightCarry a c).1.getLsbD k = a.getLsbD (k + 1) := by
  interval_cases k <;> simp [rotateRightCarry]

theorem getLsbD_rotateLeft (a : Byte) (c : Bool) {k : Nat} (hk : k < 8) :
    (rotateLeft a c).1.getLsbD k = a.getLsbD ((k + 7) % 8) := by
  cases k with
  | zero => exact getLsbD_rotateLeftCarry_zero a (a.getLsbD 7)
  | succ k =>
    rw [show (k + 1 + 7) % 8 = k by omega]
    exact getLsbD_rotateLeftCarry_succ a (a.getLsbD 7) (by omega)

theorem getLsbD_rotateRight (a : Byte) (c : Bool) {k : Nat} (hk : k < 8) :
    (rotateRight a c).1.getLsbD k = a.getLsbD ((k + 1) % 8) := by
  obtain hlt | rfl : k < 7 ∨ k = 7 := by omega
  · rw [Nat.mod_eq_of_lt (by omega)]
    exact getLsbD_rotateRightCarry_of_lt a (a.getLsbD 0) hlt
  · exact getLsbD_rotateRightCarry_seven a (a.getLsbD 0)

end Sys2Proof.Machine
end

section
open Sys2Proof Sys2Proof.Machine

/-- Settles O28: A and CY take what the model's rotate gives, whose bits are those of A moved one place. -/
theorem rotatesMoveEachBit : Obligations.RotatesMoveEachBit := by
  intro s
  refine ⟨?rlc, ?rrc, ?ral, ?rar, rfl, rfl, rfl, rfl⟩
  case rlc =>
    obtain ⟨t, h, ha, hframe⟩ := rotateA_next rotateLeft s
    exact ⟨t, h, fun k hk => ha ▸ getLsbD_rotateLeft _ _ hk, hframe⟩
  case rrc =>
    obtain ⟨t, h, ha, hframe⟩ := rotateA_next rotateRight s
    exact ⟨t, h, fun k hk => ha ▸ getLsbD_rotateRight _ _ hk, hframe⟩
  case ral =>
    obtain ⟨t, h, ha, hframe⟩ := rotateA_next rotateLeftCarry s
    exact ⟨t, h, ha ▸ getLsbD_rotateLeftCarry_zero _ _, fun k hk => ha ▸ getLsbD_rotateLeftCarry_succ _ _ hk, hframe⟩
  case rar =>
    obtain ⟨t, h, ha, hframe⟩ := rotateA_next rotateRightCarry s
    exact ⟨t, h, ha ▸ getLsbD_rotateRightCarry_seven _ _, fun k hk => ha ▸ getLsbD_rotateRightCarry_of_lt _ _ hk, hframe⟩

/-- Settles O29: CMA writes A alone, with the complement as an exclusive or; STC and CMC write CY alone. -/
theorem complementAndCarryInstructions : Obligations.ComplementAndCarryInstructions := by
  intro s
  refine ⟨?cma, complete_setCy s 1 4 true, complete_setCy s 1 4 (!s.flags.cy), rfl, rfl, rfl⟩
  obtain ⟨t, h, ha, hframe⟩ := complete_setReg s 1 4 .a (~~~s.regs.a)
  exact ⟨t, h, ha.trans BitVec.xor_allOnes.symm, hframe⟩

end

section
/-! What a stack or control-transfer instruction leaves (44_stack_control.md): the frames of a jump, of a pop and of a push, with the
stops of a push into ROM (R250, R348). -/

namespace Sys2Proof.Machine

/-! ## Jumps and pops -/

/-- What an instruction leaves that writes PC alone (R254). -/
theorem complete_setPc (s : State) (len n : Nat) (target : Word) :
    ∃ t, complete n ((s.enter len).setPc target) = .next t ∧ JumpsTo target n t ∧ KeepsFlags s t ∧ OnlyRegsAndFlags [] s t :=
  ⟨_, rfl, ⟨rfl, rfl⟩, rfl, fun _ _ => rfl, rfl, fun _ => rfl, ⟨rfl, rfl, rfl, rfl⟩, rfl, rfl, rfl, rfl⟩

/-- To go to next alone is to jump to it. -/
theorem complete_enter (s : State) (len n : Nat) :
    ∃ t, complete n (s.enter len) = .next t ∧ Advances len n s t ∧ KeepsFlags s t ∧ OnlyRegsAndFlags [] s t :=
  complete_setPc s len n (s.pc + BitVec.ofNat 16 len)

/-- An instruction that changes at most registers and flags of the popped state has raised SP by 2 (R251). -/
theorem OnlyRegsAndFlags.of_popped {rs : List Reg} {s t : State} (h : OnlyRegsAndFlags rs s.popped t) :
    t.sp = s.sp + 2 ∧ KeepsRegs rs s t ∧ KeepsMem s t ∧ KeepsControl s t ∧ KeepsIo s t := by
  obtain ⟨hregs, hsp, hrest⟩ := h
  exact ⟨hsp, hregs, hrest⟩

/-- RET and a taken Rcc jump to the popped word (R253). -/
theorem returnWith_next (n : Nat) (s : State) :
    ∃ t, returnWith n s = .next t ∧ JumpsTo s.topWord n t ∧ t.sp = s.sp + 2 ∧ KeepsRegs [] s t ∧ KeepsFlags s t ∧
      KeepsMem s t ∧ KeepsControl s t ∧ KeepsIo s t := by
  obtain ⟨t, h, hjump, hflags, honly⟩ := complete_setPc s.popped 1 n s.topWord
  obtain ⟨hsp, hregs, hrest⟩ := honly.of_popped
  exact ⟨t, h, hjump, hsp, hregs, hflags, hrest⟩

/-- POP of the register pair `q`, `r` (R265). -/
theorem complete_popped_setReg_setReg (s : State) {q r : Reg} (hne : q ≠ r) :
    ∃ t, complete 10 (((s.enter 1).popped.setReg q (hiByte s.topWord)).setReg r (loByte s.topWord)) = .next t ∧
      t.getReg q = s.readByte (s.sp + 1) ∧ t.getReg r = s.readByte s.sp ∧ t.sp = s.sp + 2 ∧
      KeepsRegs [q, r] s t ∧ KeepsFlags s t ∧ KeepsMem s t ∧ KeepsControl s t ∧ KeepsIo s t ∧ Advances 1 10 s t := by
  obtain ⟨t, h, hq, hr, hflags, honly, hadv⟩ := complete_setReg_setReg s.popped 1 10 hne (hiByte s.topWord) (loByte s.topWord)
  obtain ⟨hsp, hregs, hmem, hcontrol, hio⟩ := honly.of_popped
  exact ⟨t, h, hq.trans (hiByte_readWord s s.sp), hr.trans (loByte_readWord s s.sp), hsp, hregs, hflags, hmem, hcontrol, hio,
    hadv⟩

/-! ## Pushes -/

/-- The state that a push of `hi` and `lo` leaves when neither byte goes to ROM (R250). -/
def State.pushed (s : State) (hi lo : Byte) : State := ((s.poke (s.sp - 1) hi).poke (s.sp - 2) lo).setSp (s.sp - 2)

theorem push16_ram {s : State} (hs : StackInRam s) (hi lo : Byte) (pc0 : Word) : push16 hi lo pc0 s = .go (s.pushed hi lo) := by
  obtain ⟨hhi, hlo⟩ := hs
  rw [push16, memWrite_ram _ _ _ hhi, Flow.andThen_go, memWrite_ram _ _ _ hlo]
  rfl

theorem pushed_pushed {s : State} (hm : Memory.wf s.mem = true) (hi lo : Byte) : Pushed hi lo s (s.pushed hi lo) := by
  obtain ⟨hhi, hlo, hother⟩ := readByte_poke_poke hm (word_sub_one_ne_sub_two s.sp) hi lo
  exact ⟨hhi, hlo, rfl, hother⟩

/-- A push into ROM stops the instruction, whatever it does after the push (R348). -/
theorem push16_stops (s : State) (len n : Nat) (hi lo : Byte) (k : State → Flow) :
    PushStops len hi lo s (((push16 hi lo s.pc (s.enter len)).andThen k).finish n) := by
  refine ⟨fun hhi => ?first, fun hhi hlo => ?second⟩
  case first =>
    rw [push16, State.enter_sp, memWrite_rom _ _ _ hhi]
    rfl
  case second =>
    rw [push16, State.enter_sp, memWrite_ram _ _ _ hhi, Flow.andThen_go, memWrite_rom _ _ _ hlo]
    rfl

theorem Flow.andThen_go_right (f : Flow) : f.andThen .go = f := by cases f <;> rfl

/-- CALL, RST and a taken Ccc outside ROM push next and jump (R252). -/
theorem callTo_ram {s : State} (hm : Memory.wf s.mem = true) (hs : StackInRam s) (len n : Nat) (target : Word) :
    ∃ t, callTo len n target s = .next t ∧ JumpsTo target n t ∧
      Pushed (hiByte (s.enter len).pc) (loByte (s.enter len).pc) s t ∧
      KeepsRegs [] s t ∧ KeepsFlags s t ∧ KeepsControl s t ∧ KeepsIo s t := by
  rw [callTo, callFlow, push16_ram (s := s.enter len) hs]
  exact ⟨_, rfl, ⟨rfl, rfl⟩, pushed_pushed hm _ _, fun _ _ => rfl, rfl, ⟨rfl, rfl, rfl, rfl⟩, rfl, rfl, rfl, rfl⟩

theorem callTo_stops (s : State) (len n : Nat) (target : Word) :
    PushStops len (hiByte (s.enter len).pc) (loByte (s.enter len).pc) s (callTo len n target s) :=
  push16_stops s len n _ _ _

/-- PUSH outside ROM (R263, R264). -/
theorem pushPair_ram {s : State} (hm : Memory.wf s.mem = true) (hs : StackInRam s) (p : StackPair) :
    ∃ t, pushPair p s = .next t ∧ Pushed (hiByte (s.stackPair p)) (loByte (s.stackPair p)) s t ∧
      KeepsRegs [] s t ∧ KeepsFlags s t ∧ KeepsControl s t ∧ KeepsIo s t ∧ Advances 1 11 s t := by
  rw [pushPair, push16_ram (s := s.enter 1) hs]
  exact ⟨_, rfl, pushed_pushed hm _ _, fun _ _ => rfl, rfl, ⟨rfl, rfl, rfl, rfl⟩, ⟨rfl, rfl, rfl, rfl⟩, rfl, rfl⟩

theorem pushPair_stops (p : StackPair) (s : State) :
    PushStops 1 (hiByte (s.stackPair p)) (loByte (s.stackPair p)) s (pushPair p s) := by
  rw [pushPair, ← Flow.andThen_go_right (push16 _ _ _ _)]
  exact push16_stops s 1 11 _ _ .go

/-! ## A push and then a pop -/

/-- A pop after a push returns the pushed word (R250, R251). -/
theorem Pushed.topWord {hi lo : Byte} {s t : State} (h : Pushed hi lo s t) : t.topWord = pairOf hi lo := by
  obtain ⟨hhi, hlo, hsp, -⟩ := h
  have hnext : s.sp - 2 + 1 = s.sp - 1 := by bv_omega
  rw [State.topWord, State.readWord, hsp, hnext, hhi, hlo]

/-- A pop after a push puts SP back. -/
theorem Pushed.sp_add_two {hi lo : Byte} {s t : State} (h : Pushed hi lo s t) : t.sp + 2 = s.sp := by
  obtain ⟨-, -, hsp, -⟩ := h
  rw [hsp, BitVec.sub_add_cancel]

theorem KeepsRegs.regs_eq {s t : State} (h : KeepsRegs [] s t) : t.regs = s.regs := by
  have hget : ∀ r, t.getReg r = s.getReg r := fun r => h r List.not_mem_nil
  calc t.regs = ⟨t.getReg .b, t.getReg .c, t.getReg .d, t.getReg .e, t.getReg .h, t.getReg .l, t.getReg .a⟩ := rfl
    _ = s.regs := by simp only [hget]; rfl

/-- A pair, or the PSW, written with what it holds changes no register and no flag. -/
theorem setStackPair_stackPair {s t : State} (hregs : t.regs = s.regs) (hflags : t.flags = s.flags) (p : StackPair) :
    (t.setStackPair p (s.stackPair p)).regs = s.regs ∧ (t.setStackPair p (s.stackPair p)).flags = s.flags := by
  cases p <;> simp [State.setStackPair, State.setRp16, State.stackPair, State.bc, Regs.set, hregs, hflags]

/-! ## XTHL -/

/-- XTHL outside ROM stores HL as a word at SP and puts the word from there in HL (R267). -/
theorem exchangeTopHl_ram {s : State} (hlo : 0x1FFF < s.sp.toNat) (hhi : 0x1FFF < (s.sp + 1).toNat) :
    exchangeTopHl s = complete 18
      ((((s.enter 1).poke s.sp s.regs.l).poke (s.sp + 1) s.regs.h).setRp16 .hl s.topWord) := by
  rw [exchangeTopHl, memWrite16_ram hlo hhi, hiByte_hl, loByte_hl]
  rfl

/-- XTHL stops at its first byte, L, with nothing stored. -/
theorem exchangeTopHl_rom {s : State} (hlo : s.sp.toNat ≤ 0x1FFF) :
    exchangeTopHl s = .next (stoppedAtWrite s 1 s.sp s.regs.l) := by
  rw [exchangeTopHl, memWrite16, memWrite_rom _ _ _ hlo, loByte_hl]
  rfl

/-- XTHL stops at its second byte, H, with L stored and HL kept. -/
theorem exchangeTopHl_secondRom {s : State} (hlo : 0x1FFF < s.sp.toNat) (hhi : (s.sp + 1).toNat ≤ 0x1FFF) :
    exchangeTopHl s = .next (stoppedAtSecondWrite s 1 s.sp s.regs.l (s.sp + 1) s.regs.h) := by
  rw [exchangeTopHl, memWrite16, memWrite_ram _ _ _ hlo, Flow.andThen_go, memWrite_rom _ _ _ hhi, hiByte_hl, loByte_hl]
  rfl

end Sys2Proof.Machine
end

section
open Sys2Proof Sys2Proof.Machine

/-- Settles O30: each writes PC alone, Jcc with the target its condition selects. -/
theorem jumpsReplacePc : Obligations.JumpsReplacePc := by
  intro s
  refine ⟨complete_setPc s 3 10, complete_setPc s 1 5 s.hl, fun cc a => ?jcc, fun _ => rfl, rfl, encodes_jcc⟩
  obtain ⟨t, h, hframe⟩ := complete_setPc s 3 10 (if s.flags.cond cc then a else s.pc + 3)
  exact ⟨t, (exec_jcc_next cc a s).trans h, hframe⟩

/-- Settles O32: both are the shared call, from an instruction of three bytes or of one. -/
theorem callAndRstPushNext : Obligations.CallAndRstPushNext := by
  intro s hm
  refine ⟨fun a => ⟨fun hs => callTo_ram hm hs 3 17 a, callTo_stops s 3 17 a⟩, fun n => ?rst, fun _ => rfl, encodes_rst⟩
  rw [exec_rst]
  exact ⟨fun hs => callTo_ram hm hs 1 11 _, callTo_stops s 1 11 _⟩

/-- Settles O33: with its condition true Ccc is the shared call, with it false it only goes to next. -/
theorem conditionalCall : Obligations.ConditionalCall := by
  intro cc a s hm
  rw [exec_ccc, callIf]
  refine ⟨fun hc hs => ?taken, fun hc => ?stops, fun hc => ?notTaken, encodes_ccc cc a⟩
  case taken =>
    rw [if_pos hc]
    exact callTo_ram hm hs 3 17 a
  case stops =>
    rw [if_pos hc]
    exact callTo_stops s 3 17 a
  case notTaken =>
    rw [hc]
    exact complete_enter s 3 11

/-- Settles O34: RET and a taken Rcc are the shared return; an Rcc not taken only goes to next. -/
theorem returnsPopPc : Obligations.ReturnsPopPc := by
  intro s
  refine ⟨returnWith_next 10 s, fun cc => ?rcc, rfl, encodes_rcc⟩
  rw [exec_rcc, returnIf]
  refine ⟨fun hc => ?taken, fun hc => ?notTaken⟩
  case taken =>
    rw [if_pos hc]
    exact returnWith_next 11 s
  case notTaken =>
    rw [hc]
    exact complete_enter s 1 5

/-- Settles O35: RET pops the word that CALL has pushed. -/
theorem callThenRetComesBack : Obligations.CallThenRetComesBack := by
  intro a s hm hs
  obtain ⟨t, ht, -, hpushed, hregs, hflags, -⟩ := callTo_ram hm hs 3 17 a
  obtain ⟨u, hu, ⟨hpc, -⟩, hsp, hregs', hflags', -⟩ := returnWith_next 10 t
  refine ⟨t, u, ht, hu, ?pc, ?sp, ?regs, ?flags⟩
  case pc => rw [hpc, hpushed.topWord, pairOf_hiByte_loByte]; rfl
  case sp => rw [hsp, hpushed.sp_add_two]
  case regs => rw [hregs'.regs_eq, hregs.regs_eq]
  case flags => exact hflags'.trans hflags

/-- Settles O36: it is a push of the two halves of the pair, or of the PSW. -/
theorem pushStoresThePair : Obligations.PushStoresThePair := by
  intro s hm
  refine ⟨fun p => ?push, rfl, rfl, rfl, rfl, encodes_push⟩
  rw [exec_push]
  exact ⟨fun hs => pushPair_ram hm hs p, pushPair_stops p s⟩

/-- Settles O38: the popped word goes to the two registers of a pair, or to A and, by its bits, to the flags. -/
theorem popLoadsThePair : Obligations.PopLoadsThePair := by
  intro s
  refine ⟨complete_popped_setReg_setReg s (q := .b) (r := .c) (by decide),
    complete_popped_setReg_setReg s (q := .d) (r := .e) (by decide),
    complete_popped_setReg_setReg s (q := .h) (r := .l) (by decide), ?psw, encodes_pop⟩
  obtain ⟨t, h, ha, hflags, honly, hadv⟩ := complete_setReg_setFlags_read s.popped 1 10 .a (hiByte s.topWord)
    (byteToFlags (loByte s.topWord))
  obtain ⟨hsp, hregs, hmem, hcontrol, hio⟩ := honly.of_popped
  rw [State.topWord, loByte_readWord] at hflags
  refine ⟨t, h, ha.trans (hiByte_readWord s s.sp), ?_, ?_, ?_, ?_, ?_, hsp, hregs, hmem, hcontrol, hio, hadv⟩
  all_goals rw [hflags, byteToFlags]

/-- Settles O39: POP writes the pair with the word that PUSH has pushed, which is what the pair holds. -/
theorem pushThenPopRestores : Obligations.PushThenPopRestores := by
  intro p s hm hs
  obtain ⟨t, ht, hpushed, hregs, hflags, -⟩ := pushPair_ram hm hs p
  have htop : t.topWord = s.stackPair p := by rw [hpushed.topWord, pairOf_hiByte_loByte]
  obtain ⟨hregs', hflags'⟩ := setStackPair_stackPair (t := (t.enter 1).popped) hregs.regs_eq hflags p
  refine ⟨t, _, (exec_push p s).trans ht, exec_pop p t, ?regs, ?flags, ?sp⟩
  case regs => rw [htop]; exact hregs'
  case flags => rw [htop]; exact hflags'
  case sp => simpa using hpushed.sp_add_two

/-- Settles O40, by where the two bytes of the exchange lie. -/
theorem xthlExchangesWithTheStack : Obligations.XthlExchangesWithTheStack := by
  intro s hm
  refine ⟨fun hlo hhi => ?ram, exchangeTopHl_rom, exchangeTopHl_secondRom, rfl⟩
  have hne : s.sp ≠ s.sp + 1 := by bv_omega
  obtain ⟨hl, hh, hother⟩ := readByte_poke_poke hm hne s.regs.l s.regs.h
  have hkeep : KeepsRegs [.h, .l] s (s.setRp16 .hl s.topWord) :=
    KeepsRegs.setReg (KeepsRegs.setReg (fun _ _ => rfl) (by simp) _) (by simp) _
  exact ⟨_, exchangeTopHl_ram hlo hhi, loByte_readWord s s.sp, hiByte_readWord s s.sp, hl, hh, rfl, hkeep, hother, rfl,
    ⟨rfl, rfl, rfl, rfl⟩, ⟨rfl, rfl, rfl, rfl⟩, rfl, rfl⟩

/-- Settles O41: it writes SP alone. -/
theorem sphlCopiesHlToSp : Obligations.SphlCopiesHlToSp := by
  intro s
  obtain ⟨t, h, hsp, hflags, hregs, hmem, hcontrol, hio, hadv⟩ := complete_setSp s 1 5 s.hl
  exact ⟨t, h, hsp, hregs, hflags, hmem, hcontrol, hio, hadv, rfl⟩

end

section
/-! What an IN or an OUT leaves (45_io_ports.md): the byte an IN reads, the update an OUT makes by its port, and the frame of an
instruction that writes I/O state alone; and what a port array reads after a write. -/

namespace Sys2Proof.Machine

/-! ## Port arrays (R46, R47) -/

/-- A canonical port array reads back the byte written for a port, and no other port's byte changes. -/
theorem Ports.read_write {m : Cells} (hm : Ports.wf m = true) (p v : Byte) :
    (m.write p.toNat v).read p.toNat = v ∧ ∀ q : Byte, q ≠ p → (m.write p.toNat v).read q.toNat = m.read q.toNat :=
  ⟨Cells.read_write_same _ v hm, fun _ hq => Cells.read_write_other m _ _ v fun e => hq (BitVec.eq_of_toNat_eq e)⟩

/-! ## IN -/

theorem getLsbD_shiftWindow (s : State) {k : Nat} (hk : k < 8) :
    s.shiftWindow.getLsbD k = s.shift.getLsbD (8 - s.shiftOff.toNat + k) := by
  simp [State.shiftWindow, hk]

theorem portRead_three (s : State) : s.portRead 3 = s.shiftWindow := if_pos rfl

theorem portRead_other {p : Byte} (hp : p ≠ 3) (s : State) : s.portRead p = s.inSnap.read p.toNat := if_neg hp

/-- IN writes A alone, with what the port reads (R290). -/
theorem exec_inPort_next (p : Byte) (s : State) :
    ∃ t, exec (.inPort p) s = .next t ∧ t.regs.a = s.portRead p ∧ KeepsFlags s t ∧ OnlyRegsAndFlags [.a] s t ∧
      Advances 2 10 s t :=
  complete_setReg s 2 10 .a (s.portRead p)

/-! ## OUT -/

/-- The shift register after OUT 4 is the pair of the byte written and the old high byte (R298). -/
theorem writeShift_shift_eq_pairOf (s : State) (v : Byte) : (s.writeShift v).shift = pairOf v (hiByte s.shift) := by
  have hold : s.shift >>> 8 = (hiByte s.shift).setWidth 16 := by
    apply BitVec.eq_of_getLsbD_eq
    intro i hlt
    by_cases hi : i < 8
    · simp [hiByte, hi, hlt]
    · simp [hiByte, hi, BitVec.getLsbD_of_ge s.shift (8 + i) (by omega)]
  rw [State.writeShift_shift, hold, pairOf]

/-- OUT 3 and OUT 5 add the event Sound to the report (R300). -/
theorem exec_outPort_sound {p : Byte} (hp : p = 3 ∨ p = 5) (s : State) :
    exec (.outPort p) s = complete 10 ((s.enter 2).emit (.sound p s.regs.a)) := by
  obtain rfl | rfl := hp <;> rfl

/-- OUT of an unrecognised port writes the latch of that port (R302). -/
theorem exec_outPort_latch {p : Byte} (hp : p ∉ ([2, 3, 4, 5, 6] : List Byte)) (s : State) :
    exec (.outPort p) s = complete 10 ((s.enter 2).writeLatch p s.regs.a) := by
  obtain ⟨h2, h3, h4, h5, h6⟩ : p ≠ 2 ∧ p ≠ 3 ∧ p ≠ 4 ∧ p ≠ 5 ∧ p ≠ 6 := by simpa using hp
  have hwrite : (s.enter 2).portWrite p s.regs.a = (s.enter 2).writeLatch p s.regs.a := by
    rw [State.portWrite, if_neg h2, if_neg h4, if_neg (not_or.2 ⟨h3, h5⟩), if_neg h6]
  exact congrArg (complete 10) hwrite

/-- The frame of an instruction that writes SHIFT, SHIFT_OFF and the output latches alone. -/
theorem complete_io (s : State) (len n : Nat) (x : Word) (off : BitVec 3) (latch : Cells) :
    ∃ t, complete n { s.enter len with shift := x, shiftOff := off, outLatch := latch } = .next t ∧
      (t.shift = x ∧ t.shiftOff = off ∧ t.inSnap = s.inSnap ∧ t.outLatch = latch) ∧
      KeepsRegs [] s t ∧ t.sp = s.sp ∧ KeepsFlags s t ∧ KeepsMem s t ∧ KeepsControl s t ∧ Advances len n s t :=
  ⟨_, rfl, ⟨rfl, rfl, rfl, rfl⟩, fun _ _ => rfl, rfl, rfl, fun _ => rfl, ⟨rfl, rfl, rfl, rfl⟩, rfl, rfl⟩

end Sys2Proof.Machine
end

section
open Sys2Proof Sys2Proof.Machine

/-- Settles O42: A takes what the port reads, for port 3 the window, whose bits are those of the shift register from the offset. -/
theorem inReadsThePort : Obligations.InReadsThePort := by
  intro p s
  obtain ⟨t, h, ha, hflags, honly, hadv⟩ := exec_inPort_next p s
  refine ⟨t, h, fun hp k hk => ?window, fun hp => ?snapshot, hflags, honly, hadv, rfl⟩
  case window => rw [ha, hp, portRead_three, getLsbD_shiftWindow s hk]
  case snapshot => rw [ha, portRead_other hp]

/-- Settles O43: OUT 2 writes the offset alone, OUT 4 the shift register alone, with the pair of A and the old high byte. -/
theorem outDrivesTheShiftRegister : Obligations.OutDrivesTheShiftRegister := by
  intro s
  refine ⟨?offset, ?shift, fun _ => rfl⟩
  case offset =>
    obtain ⟨t, h, ⟨hshift, hoff, hsnap, hlatch⟩, hframe⟩ := complete_io s 2 10 s.shift (s.regs.a.setWidth 3) s.outLatch
    exact ⟨t, h, by rw [hoff, BitVec.toNat_setWidth], hshift, hsnap, hlatch, hframe⟩
  case shift =>
    obtain ⟨t, h, ⟨hshift, hoff, hsnap, hlatch⟩, hframe⟩ :=
      complete_io s 2 10 (s.writeShift s.regs.a).shift s.shiftOff s.outLatch
    rw [writeShift_shift_eq_pairOf] at hshift
    exact ⟨t, h, by rw [hshift, hiByte_pairOf], by rw [hshift, loByte_pairOf], hoff, hsnap, hlatch, hframe⟩

/-- Settles O44: OUT 3 and OUT 5 add their event to the report alone; a port outside 2 to 6 writes its own latch alone. -/
theorem outSoundsAndLatches : Obligations.OutSoundsAndLatches := by
  intro p s hwf
  refine ⟨fun hp => ?sound, fun hp => ?latch⟩
  case sound =>
    exact ⟨_, exec_outPort_sound hp s, rfl, rfl, rfl, fun _ _ => rfl, rfl, fun _ => rfl, ⟨rfl, rfl, rfl, rfl⟩, rfl, rfl, rfl, rfl⟩
  case latch =>
    obtain ⟨hsame, hother⟩ := Ports.read_write hwf p s.regs.a
    obtain ⟨t, h, ⟨hshift, hoff, hsnap, hlatch⟩, hregs, hsp, hflags, hmem, hcontrol, hadv⟩ :=
      complete_io s 2 10 s.shift s.shiftOff (s.outLatch.write p.toNat s.regs.a)
    exact ⟨t, (exec_outPort_latch hp s).trans h, hadv, hlatch ▸ hsame, hlatch ▸ hother, hshift, hoff, hsnap, hregs, hsp, hflags,
      hmem, hcontrol⟩

/-- Settles O50: with no error recorded each call is its one write, and an IN of the port reads the written snapshot. -/
theorem hostSetsIeAndSnapshots : Obligations.HostSetsIeAndSnapshots := by
  intro s hf hwf
  refine ⟨fun b => unlessStopped_running hf _, fun p v => ?snapshot⟩
  obtain ⟨hsame, hother⟩ := Ports.read_write hwf p v
  refine ⟨{ s with inSnap := s.inSnap.write p.toNat v }, unlessStopped_running hf _, hsame, hother, fun _ _ => rfl, rfl, rfl, rfl,
    fun _ => rfl, ⟨rfl, rfl, rfl, rfl⟩, rfl, rfl, rfl, fun hp => ?read⟩
  obtain ⟨u, hu, ha, -⟩ := exec_inPort_next p { s with inSnap := s.inSnap.write p.toNat v }
  exact ⟨u, hu, by rw [ha, portRead_other hp, hsame]⟩

end

section
/-! What machine control leaves (46_machine_control.md): the frame of an instruction that writes IE and HALT alone, and an interrupt
that is accepted with room for its push (R353). -/

namespace Sys2Proof.Machine

/-- The frame of an instruction that writes IE and HALT alone. -/
theorem complete_ie_halt (s : State) (len n : Nat) (ie halt : Bool) :
    ∃ t, complete n { s.enter len with ie := ie, halt := halt } = .next t ∧ (t.ie = ie ∧ t.halt = halt) ∧
      t.fault = s.fault ∧ t.draws = s.draws ∧ KeepsRegs [] s t ∧ t.sp = s.sp ∧ KeepsFlags s t ∧ KeepsMem s t ∧ KeepsIo s t ∧
      Advances len n s t :=
  ⟨_, rfl, ⟨rfl, rfl⟩, rfl, rfl, fun _ _ => rfl, rfl, rfl, fun _ => rfl, ⟨rfl, rfl, rfl, rfl⟩, rfl, rfl⟩

/-- EI writes IE alone of the control state (R321). -/
theorem exec_ei_next (s : State) :
    ∃ t, exec .ei s = .next t ∧ t.ie = true ∧ t.halt = s.halt ∧ t.fault = s.fault ∧ t.draws = s.draws ∧
      KeepsRegs [] s t ∧ t.sp = s.sp ∧ KeepsFlags s t ∧ KeepsMem s t ∧ KeepsIo s t ∧ Advances 1 4 s t := by
  obtain ⟨t, h, ⟨hie, hhalt⟩, hframe⟩ := complete_ie_halt s 1 4 true s.halt
  exact ⟨t, h, hie, hhalt, hframe⟩

/-- With no error recorded, IE = 1 and a vector in range, a raise accepts the interrupt (R351). -/
theorem raise_of_accept {v : Byte} {s t : State} (hf : s.fault = none) (hv : v.toNat ≤ 7) (hie : s.ie = true)
    (h : acceptInterrupt v.toNat s = .go t ∨ acceptInterrupt v.toNat s = .stop t) : hostCall (.raise v) s = .next t := by
  rw [hostCall, raiseInterrupt, unlessStopped_running hf, if_neg (Nat.not_lt.2 hv), if_pos hie]
  obtain h | h := h <;> rw [h]

/-- An accepted interrupt whose push stays out of ROM pushes PC, goes to its vector and clears IE and HALT (R353). -/
theorem raise_ram {v : Byte} {s : State} (hf : s.fault = none) (hv : v.toNat ≤ 7) (hie : s.ie = true)
    (hm : Memory.wf s.mem = true) (hs : StackInRam s) :
    ∃ t, hostCall (.raise v) s = .next t ∧ t.pc = vectorAddress v.toNat ∧ t.ie = false ∧ t.halt = false ∧ t.fault = none ∧
      Pushed (hiByte s.pc) (loByte s.pc) s t ∧ KeepsRegs [] s t ∧ KeepsFlags s t ∧ KeepsIo s t ∧ t.out = s.out := by
  have haccept : acceptInterrupt v.toNat s =
      .go ((((s.pushed (hiByte s.pc) (loByte s.pc)).setPc (vectorAddress v.toNat)).setIe false).setHalt false) := by
    rw [acceptInterrupt, push16_ram hs, Flow.andThen_go]
  exact ⟨_, raise_of_accept hf hv hie (.inl haccept), rfl, rfl, rfl, hf, pushed_pushed hm _ _, fun _ _ => rfl, rfl,
    ⟨rfl, rfl, rfl, rfl⟩, rfl⟩

end Sys2Proof.Machine
end

section
open Sys2Proof Sys2Proof.Machine

/-- Settles O49: EI sets IE and keeps the stack, so the raise pushes the address after the EI, which RET pops. -/
theorem eiThenInterruptThenRet : Obligations.EiThenInterruptThenRet := by
  intro v s hf hv hm hs
  obtain ⟨t, ht, hie, -, hfault, -, hregs, hsp, hflags, -, -, ⟨hnext, -⟩⟩ := exec_ei_next s
  have hmt : Memory.wf t.mem = true := (exec_storesInRam .ei s t ht).memoryWf hm
  have hst : StackInRam t := by rwa [StackInRam, hsp]
  obtain ⟨u, hu, hvector, hieu, hhaltu, -, hpushed, hregs', hflags', -⟩ := raise_ram (hfault.trans hf) hv hie hmt hst
  obtain ⟨w, hw, ⟨hpc, -⟩, hspw, hregs'', hflags'', -, ⟨hiew, hhaltw, -⟩, -⟩ := returnWith_next 10 u
  refine ⟨t, u, w, ht, hu, hvector, hw, ?pc, ?sp, hiew.trans hieu, hhaltw.trans hhaltu, ?regs, ?flags⟩
  case pc => rw [hpc, hpushed.topWord, pairOf_hiByte_loByte]; exact hnext
  case sp => rw [hspw, hpushed.sp_add_two, hsp]
  case regs => rw [hregs''.regs_eq, hregs'.regs_eq, hregs.regs_eq]
  case flags => exact hflags''.trans (hflags'.trans hflags)

/-- Settles O46: NOP only goes to next; EI and DI write IE, HLT writes HALT, and the other of the two is written with itself. -/
theorem nopEiDiHlt : Obligations.NopEiDiHlt := by
  intro s
  refine ⟨?nop, exec_ei_next s, ?di, ?hlt, rfl, rfl, rfl, rfl⟩
  case nop =>
    obtain ⟨t, h, hadv, hflags, honly⟩ := complete_enter s 1 4
    exact ⟨t, h, hflags, honly, hadv⟩
  case di =>
    obtain ⟨t, h, ⟨hie, hhalt⟩, hframe⟩ := complete_ie_halt s 1 4 false s.halt
    exact ⟨t, h, hie, hhalt, hframe⟩
  case hlt =>
    obtain ⟨t, h, ⟨hie, hhalt⟩, hframe⟩ := complete_ie_halt s 1 7 s.ie true
    exact ⟨t, h, hhalt, hie, hframe⟩

end

section
/-! Which instructions raise an error, and with what record: an illegal byte, or a store into ROM by one of the instructions the
table names (R340, R342, R343, R346). -/

namespace Sys2Proof

/-- The instructions the error table names as writers of memory (R340, R346). -/
def Instr.WritesMemory (i : Instr) : Prop :=
  (∃ r, i = movInstr .m (.reg r)) ∨ (∃ w, i = .mviM w) ∨ (∃ w, i = .sta w) ∨ (∃ w, i = .shld w) ∨
    (∃ p, i = staxInstr p) ∨ i = .inrM ∨ i = .dcrM ∨ (∃ w, i = .call w) ∨ (∃ cc w, i = cccInstr cc w) ∨
    (∃ n, i = rstInstr n) ∨ (∃ p, i = pushInstr p) ∨ i = .xthl

namespace Machine

/-- The error is that of a write to ROM by the instruction at `pc0` (R342). -/
def ErrorRecord.IsRomWrite (pc0 : Word) (e : ErrorRecord) : Prop :=
  ∃ a v, e = .writeProtectionViolation a v pc0 ∧ a.toNat ≤ 0x1FFF

/-- A flow of the instruction at `pc0` that goes on has no error recorded, and one that has stopped has a write to ROM. -/
def Flow.RaisesRomWrites (pc0 : Word) : Flow → Prop
  | .go t => t.fault = none
  | .stop t => ∃ e, t.fault = some e ∧ e.IsRomWrite pc0

theorem Flow.RaisesRomWrites.andThen {pc0 : Word} {f : Flow} {k : State → Flow} (hf : f.RaisesRomWrites pc0)
    (hk : ∀ t, t.fault = none → (k t).RaisesRomWrites pc0) : (f.andThen k).RaisesRomWrites pc0 :=
  match f with
  | .go t => hk t hf
  | .stop _ => hf

/-- The error that a finished flow answers with is a write to ROM. -/
theorem ErrorRecord.IsRomWrite.of_finish {pc0 : Word} {f : Flow} {n : Nat} {t : State} {e : ErrorRecord}
    (h : f.finish n = .next t) (he : t.fault = some e) (hf : f.RaisesRomWrites pc0) : e.IsRomWrite pc0 := by
  obtain ⟨u, rfl, rfl⟩ | rfl := Flow.finish_next h
  · exact absurd (hf.symm.trans he) nofun
  · obtain ⟨e', he', hrom⟩ := hf
    cases he'.symm.trans he
    exact hrom

/-! ## Writes, pushes and calls -/

theorem memWrite_raisesRomWrites {t : State} {a pc0 : Word} {v : Byte} (ht : t.fault = none) :
    (memWrite a v pc0 t).RaisesRomWrites pc0 := by
  obtain ⟨ha, e⟩ | ⟨-, e⟩ := memWrite_cases a v pc0 t <;> rw [e]
  · exact ⟨_, rfl, a, v, rfl, ha⟩
  · exact ht

theorem memWrite16_raisesRomWrites {t : State} {a v pc0 : Word} (ht : t.fault = none) :
    (memWrite16 a v pc0 t).RaisesRomWrites pc0 :=
  (memWrite_raisesRomWrites ht).andThen fun _ hu => memWrite_raisesRomWrites hu

theorem push16_raisesRomWrites {t : State} {hi lo : Byte} {pc0 : Word} (ht : t.fault = none) :
    (push16 hi lo pc0 t).RaisesRomWrites pc0 :=
  (memWrite_raisesRomWrites ht).andThen fun _ hu => (memWrite_raisesRomWrites hu).andThen fun _ hv => hv

theorem callTo_isRomWrite {s t : State} {len n : Nat} {a : Word} {e : ErrorRecord} (hs : s.fault = none)
    (h : callTo len n a s = .next t) (he : t.fault = some e) : e.IsRomWrite s.pc :=
  .of_finish h he (.andThen (push16_raisesRomWrites hs) fun _ hu => hu)

/-! ## Every instruction -/

theorem portWrite_raisesNothing {s : State} {p v : Byte} (hs : s.fault = none) : (s.portWrite p v).fault = none := by
  obtain ⟨-, e⟩ | ⟨-, e⟩ | ⟨-, e⟩ | ⟨-, e⟩ | ⟨-, e⟩ := portWrite_cases s p v <;> rw [e]
  case inr.inr.inr.inl => rfl
  all_goals exact hs

/-- A completed instruction raises nothing where the state it completes in has no error recorded. -/
theorem complete_raisesNothing {n : Nat} {t u : State} {e : ErrorRecord} (h : complete n u = .next t) (hu : u.fault = none) :
    t.fault ≠ some e := by
  simp [complete_next h, hu]

/-- An instruction that raises an error is illegal, or a writer of memory that writes to ROM. -/
theorem exec_raises {i : Instr} {s t : State} {e : ErrorRecord} (hs : s.fault = none) (h : exec i s = .next t)
    (he : t.fault = some e) : i.isIllegal = true ∨ (i.WritesMemory ∧ e.IsRomWrite s.pc) := by
  cases i.family with
  | illegal i hi => exact .inl hi
  | nop | lhld | lda | rlc | rrc | ral | rar | daa | cma | stc | cmc | ret | pchl | sphl | jmp | inPort | xchg | ei | di | hlt =>
    exact absurd he (complete_raisesNothing h (by simpa using hs))
  | outPort p => exact absurd he (complete_raisesNothing h (portWrite_raisesNothing hs))
  | lxi | dad | ldax | inx | dcx | inrReg | dcrReg | mviReg | movRegReg | movRegM | aluReg | aluM | aluImm | pop =>
    simp only [exec_lxi, exec_dad, exec_ldax, exec_inx, exec_dcx, exec_inr_reg, exec_dcr_reg, exec_mvi_reg,
      exec_mov_reg_reg, exec_mov_reg_m, exec_alu_reg, exec_alu_m, exec_alu_imm, exec_pop] at h
    exact absurd he (complete_raisesNothing h (by simpa [State.aluInto] using hs))
  | jcc cc a =>
    simp only [exec_jcc, jumpIf] at h
    split at h <;> exact absurd he (complete_raisesNothing h hs)
  | rcc cc =>
    simp only [exec_rcc, returnIf] at h
    split at h <;> exact absurd he (complete_raisesNothing h hs)
  | ccc cc a =>
    simp only [exec_ccc, callIf] at h
    split at h
    · exact .inr ⟨by simp [Instr.WritesMemory], callTo_isRomWrite hs h he⟩
    · exact absurd he (complete_raisesNothing h hs)
  | call a => exact .inr ⟨by simp [Instr.WritesMemory], callTo_isRomWrite hs h he⟩
  | rst n => exact .inr ⟨by simp [Instr.WritesMemory], callTo_isRomWrite hs (exec_rst n s ▸ h) he⟩
  | push p =>
    rw [exec_push] at h
    exact .inr ⟨by simp [Instr.WritesMemory], .of_finish h he (push16_raisesRomWrites hs)⟩
  | stax p =>
    rw [exec_stax] at h
    exact .inr ⟨by simp [Instr.WritesMemory], .of_finish h he (memWrite_raisesRomWrites hs)⟩
  | movMReg r =>
    rw [exec_mov_m_reg] at h
    exact .inr ⟨.inl ⟨r, rfl⟩, .of_finish h he (memWrite_raisesRomWrites hs)⟩
  | mviM | sta => exact .inr ⟨by simp [Instr.WritesMemory], .of_finish h he (memWrite_raisesRomWrites hs)⟩
  | shld => exact .inr ⟨by simp [Instr.WritesMemory], .of_finish h he (memWrite16_raisesRomWrites hs)⟩
  | inrM | dcrM =>
    exact .inr ⟨by simp [Instr.WritesMemory], .of_finish h he (.andThen (memWrite_raisesRomWrites hs) fun _ hu => hu)⟩
  | xthl =>
    exact .inr ⟨by simp [Instr.WritesMemory], .of_finish h he (.andThen (memWrite16_raisesRomWrites hs) fun _ hu => hu)⟩

end Machine
end Sys2Proof
end

section
open Sys2Proof Sys2Proof.Machine

/-- Settles O57: an illegal byte answers its own record, and every other error is a write to ROM by a writer of memory. -/
theorem onlyStoresAndIllegalBytesRaise : Obligations.OnlyStoresAndIllegalBytesRaise := by
  intro i s t e hs h he
  obtain hi | ⟨hwrites, a, v, rfl, ha⟩ := exec_raises hs h he
  · rw [exec_illegal_next hi] at h
    cases h
    exact .inl ⟨hi, (Option.some.inj he).symm⟩
  · exact .inr ⟨a, v, rfl, ha, hwrites⟩

end

section
/-! What a stopped core answers to any run of the host's calls (R341). -/

namespace Sys2Proof.Machine

/-- A stopped core answers every call with a stopped core, the same but for the record of the last report (R341). -/
theorem hostCall_stopped_next {s : State} {e : ErrorRecord} (hs : s.fault = some e) (c : HostCall) :
    ∃ t, hostCall c s = .next t ∧ t.fault = some e ∧ { t with out := s.out } = s := by
  refine ⟨_, hostCall_of_stopped hs c, ?_⟩
  split <;> exact ⟨hs, rfl⟩

/-- No run of calls changes a stopped core. -/
theorem runCalls_of_stopped {e : ErrorRecord} (calls : List HostCall) {s : State} (hs : s.fault = some e) :
    ∃ t, runCalls calls s = .next t ∧ { t with out := s.out } = s := by
  induction calls generalizing s with
  | nil => exact ⟨s, rfl, rfl⟩
  | cons c rest ih =>
    obtain ⟨t, ht, hft, hts⟩ := hostCall_stopped_next hs c
    obtain ⟨u, hu, hut⟩ := ih hft
    refine ⟨u, by rw [runCalls, ht]; exact hu, ?_⟩
    calc { u with out := s.out } = { t with out := s.out } := congrArg (fun x : State => { x with out := s.out }) hut
      _ = s := hts

/-- After any run of calls of a stopped core the host reads the error in FAULT. -/
theorem runReplies_readFault_of_stopped {e : ErrorRecord} (calls : List HostCall) {s : State} (hs : s.fault = some e) :
    runReplies (calls ++ [.readFault]) s = runReplies calls s ++ [.faultRecord (some e)] := by
  induction calls generalizing s with
  | nil => simp [runReplies, hostCall, hostReply, hs]
  | cons c rest ih =>
    obtain ⟨t, ht, hft, -⟩ := hostCall_stopped_next hs c
    simp [runReplies, ht, ih hft]

end Sys2Proof.Machine
end

section
open Sys2Proof Sys2Proof.Machine

/-- Settles O7, by induction on the calls: each keeps the core stopped. -/
theorem stoppedCoreMakesNoMove : Obligations.StoppedCoreMakesNoMove := by
  intro s e hs
  refine ⟨step_of_stopped hs, fun c hc => ?call, fun calls => runCalls_of_stopped calls hs, fun b p v bytes origin t => ?replies,
    fun calls => runReplies_readFault_of_stopped calls hs⟩
  case call => rw [hostCall_of_stopped hs, if_neg hc]
  case replies =>
    have silent : ∀ own, replyUnlessRaised s t own = .nothing := replyUnlessRaised_stopped hs t
    exact ⟨silent _, silent _, silent _, silent _, silent _⟩

end

section
/-! What a raise answers where the interrupt is not taken, and where its push stops in ROM (R351-R353). -/

namespace Sys2Proof.Machine

theorem acceptInterrupt_rom {s : State} (h : (s.sp - 1).toNat ≤ 0x1FFF) (n : Nat) : acceptInterrupt n s =
    .stop { s with fault := some (.writeProtectionViolation (s.sp - 1) (hiByte s.pc) s.pc) } := by
  rw [acceptInterrupt, push16, memWrite_rom _ _ _ h]
  rfl

theorem acceptInterrupt_secondRom {s : State} (h : 0x1FFF < (s.sp - 1).toNat) (h' : (s.sp - 2).toNat ≤ 0x1FFF) (n : Nat) :
    acceptInterrupt n s = .stop { s with
      mem := s.mem.write (s.sp - 1).toNat (hiByte s.pc)
      fault := some (.writeProtectionViolation (s.sp - 2) (loByte s.pc) s.pc) } := by
  rw [acceptInterrupt, push16, memWrite_ram _ _ _ h, Flow.andThen_go, memWrite_rom _ _ _ h']
  rfl

/-- With IE = 0 a raise is ignored (R352). -/
theorem raise_of_masked {v : Byte} {s : State} (hf : s.fault = none) (hv : v.toNat ≤ 7) (hie : s.ie = false) :
    hostCall (.raise v) s = .next s := by
  rw [hostCall, raiseInterrupt, unlessStopped_running hf, if_neg (Nat.not_lt.2 hv), hie, if_neg Bool.false_ne_true]

/-- A raise of a vector above 7 is refused, whatever IE is (R352). -/
theorem raise_of_outOfRange {v : Byte} {s : State} (hf : s.fault = none) (hv : 7 < v.toNat) :
    hostCall (.raise v) s = .refused (.vectorOutOfRange v) := by
  rw [hostCall, raiseInterrupt, unlessStopped_running hf, if_pos hv]

end Sys2Proof.Machine
end

section
open Sys2Proof Sys2Proof.Machine

/-- Settles O47: a raise answers the state that the acceptance goes on to, or stops in. -/
theorem acceptedInterruptVectors : Obligations.AcceptedInterruptVectors := by
  intro v s hf hv hie hm
  refine ⟨fun hs => ?accepted, fun h => raise_of_accept hf hv hie (.inr (acceptInterrupt_rom h _)),
    fun h h' => raise_of_accept hf hv hie (.inr (acceptInterrupt_secondRom h h' _))⟩
  obtain ⟨t, ht, hpc, hiet, hhalt, hfault, hpushed, hregs, hflags, hio, hout⟩ := raise_ram hf hv hie hm hs
  exact ⟨t, ht, hpc, hiet, hhalt, hfault, hpushed, hregs, hflags, hio, hout, replyUnlessRaised_completed hf hfault _⟩

/-- Settles O48: a raise asks about its vector before IE. -/
theorem ignoredAndRefusedInterrupts : Obligations.IgnoredAndRefusedInterrupts :=
  fun _ _ hf => ⟨raise_of_masked hf, raise_of_outOfRange hf⟩

end

section
/-! What a call of the host answers, and what it keeps (R363). -/

namespace Sys2Proof.Machine

/-- Taking an interrupt keeps the registers, the flags and the I/O state, whether its push completes or stops (R353, R365). -/
theorem acceptInterrupt_keeps {n : Nat} {s t : State} (h : acceptInterrupt n s = .go t ∨ acceptInterrupt n s = .stop t) :
    t.regs = s.regs ∧ t.flags = s.flags ∧ KeepsIo s t := by
  obtain ⟨-, e⟩ | ⟨-, -, e⟩ | ⟨-, -, e⟩ := acceptInterrupt_cases n s
  all_goals
    rw [e] at h
    obtain h | h := h <;> cases h
    exact ⟨rfl, rfl, rfl, rfl, rfl, rfl⟩

/-- Every instruction that completes reports some cycle count (R133): that of the path it takes, where its row has two. -/
theorem exec_reportsSomeCycles (i : Instr) (s : State) : ∃ c, ReportsCycles c (exec i s) := by
  cases i.family with
  | jcc cc a => exact ⟨_, exec_reportsCycles_of_cond (.inl rfl) s⟩
  | ccc cc a => exact ⟨_, exec_reportsCycles_of_cond (.inr (.inl rfl)) s⟩
  | rcc cc => exact ⟨_, exec_reportsCycles_of_cond (a := 0) (.inr (.inr rfl)) s⟩
  | illegal i hi =>
    refine ⟨none, fun t h ht => ?_⟩
    rw [exec_illegal_next hi] at h
    cases h
    cases ht
  | lxi p | dad p | stax p | ldax p | inx p | dcx p | inrReg p | dcrReg p | mviReg p | movRegM p | movMReg p | aluM p | aluImm p
  | pop p | push p => cases p <;> exact ⟨_, exec_reportsCycles rfl s⟩
  | movRegReg p q | aluReg p q => cases p <;> cases q <;> exact ⟨_, exec_reportsCycles rfl s⟩
  | rst n => fin_cases n <;> exact ⟨_, exec_reportsCycles rfl s⟩
  | _ => exact ⟨_, exec_reportsCycles rfl s⟩

/-- A step that completes reports a cycle count (R131, R133). -/
theorem step_reportsCycles {s t : State} (hf : s.fault = none) (h : step s = .next t) (ht : t.fault = none) :
    t.out.cycles ≠ none := by
  obtain ⟨hstopped, -⟩ | ⟨-, -, rfl⟩ | ⟨-, -, h⟩ := step_cases h
  · exact absurd hf hstopped
  · exact Option.some_ne_none _
  · obtain ⟨c, hc⟩ := exec_reportsSomeCycles (fetchInstr s) s
    exact (hc t h ht).1

/-- A call that raises a fatal error answers that error; a read raises none (R340, R341). -/
theorem hostReply_of_raised {c : HostCall} {s t : State} {e : ErrorRecord} (hf : s.fault = none) (h : hostCall c s = .next t)
    (he : t.fault = some e) : hostReply c s t = .raised e := by
  cases c with
  | execute | raise | setInterruptsEnabled | setInputPort | loadImage => exact replyUnlessRaised_raised hf he _
  | readMemory | readLatch | readFault =>
    cases h
    exact absurd (hf.symm.trans he) nofun

theorem hostReply_loadImage {bytes : List Byte} {origin : Word} {s t : State} (hf : s.fault = none)
    (h : loadImage bytes origin s = .next t) : hostReply (.loadImage bytes origin) s t =
      if origin.toNat + bytes.length ≤ 0x2000 then .nothing else .raised (.imageTooLarge origin bytes.length) := by
  split
  next hfits =>
    cases (loadImage_fits hf hfits).symm.trans h
    exact replyUnlessRaised_completed hf hf _
  next hlarge =>
    cases (loadImage_tooLarge hf (Nat.lt_of_not_le hlarge)).symm.trans h
    exact replyUnlessRaised_raised hf rfl _

end Sys2Proof.Machine
end

section
open Sys2Proof Sys2Proof.Machine

/-- Settles O55: what a call changes by the view of its changes, and what it answers row by row. -/
theorem hostCallsKeepToTheirRow : Obligations.HostCallsKeepToTheirRow := by
  refine ⟨fun c s t hc h => ?changes, fun c s t e hf h he => hostReply_of_raised hf h he,
    fun s t hf h ht => ⟨replyUnlessRaised_completed hf ht _, step_reportsCycles hf h ht⟩,
    fun v s t hf _ ht => replyUnlessRaised_completed hf ht _, fun b s t hf h => ?ie, fun p v s t hf h => ?snapshot,
    fun bytes origin s t hf h => hostReply_loadImage hf h, ?readMemory, ?readLatch, ?readFault⟩
  case changes =>
    cases hostCall_changes h with
    | step => exact absurd rfl hc
    | interrupt v _ _ _ h =>
      obtain ⟨hregs, hflags, hshift, hoff, hsnap, hlatch⟩ := acceptInterrupt_keeps h
      simp [hregs, hflags, hshift, hoff, hsnap, hlatch]
    | nothing | ie | snapshot | image | imageTooLarge => simp
  case ie | snapshot =>
    cases (unlessStopped_running hf _).symm.trans h
    exact replyUnlessRaised_completed hf hf _
  case readMemory | readLatch =>
    intro _ s t h
    cases h
    exact ⟨rfl, rfl⟩
  case readFault =>
    intro s t h
    cases h
    exact ⟨rfl, rfl⟩

end

section
/-! The reset of OUT 6 and of power-on (R380, R382), and that no step reads the record of the last report (R397). -/

namespace Sys2Proof.Machine

/-- OUT 6 emits ResetRequest and resets the core, after the PC has gone to next (R296, R301). -/
theorem exec_outPort_reset (s : State) :
    exec (.outPort 6) s = complete 10 ((s.enter 2).emit .resetRequest).resetCore := rfl

/-- The power-on state lists no byte of memory and of no port, which is canonical. -/
theorem reset_wf : State.reset.wf = true := rfl

/-- No meaning reads the report: each family's operation goes on from `enter`, which empties it (R130), and reads other fields
alone of the state before that. -/
theorem exec_withOut (i : Instr) (s : State) (o : Output) : exec i { s with out := o } = exec i s := by
  cases i.family with
  | nop | lhld | lda | shld | sta | rlc | rrc | ral | rar | daa | cma | stc | cmc | hlt | ei | di | inrM | dcrM | mviM | xchg | xthl
  | pchl | sphl | jmp | call | ret | inPort | outPort => rfl
  | lxi | dad | stax | ldax | inx | dcx | inrReg | dcrReg | mviReg | movRegReg | movRegM | movMReg | aluReg | aluM | aluImm
  | jcc | ccc | rcc | rst | push | pop =>
    simp only [exec_lxi, exec_dad, exec_stax, exec_ldax, exec_inx, exec_dcx, exec_inr_reg, exec_dcr_reg, exec_mvi_reg,
      exec_mov_reg_reg, exec_mov_reg_m, exec_mov_m_reg, exec_alu_reg, exec_alu_m, exec_alu_imm, exec_jcc, exec_ccc, exec_rcc,
      exec_rst, exec_push, exec_pop]
    rfl
  | illegal i hi => simp only [exec_illegal i hi]; rfl

end Sys2Proof.Machine
end

section
open Sys2Proof Sys2Proof.Machine

/-- Settles O45: the reset is the last write of OUT 6, and it keeps memory and the I/O state. -/
theorem outSixResetsTheCore : Obligations.OutSixResetsTheCore := fun s =>
  ⟨_, exec_outPort_reset s, rfl, rfl, rfl, rfl, rfl, fun _ => rfl, rfl, rfl, rfl, rfl⟩

/-- Settles O52: the four values of R380, and the canonical form. -/
theorem resetIsAPowerOnState : Obligations.ResetIsAPowerOnState := ⟨rfl, rfl, rfl, rfl, reset_wf⟩

/-- Settles O59: the step chooses by FAULT and HALT; the no-op and the idle step write the report anew, and no instruction reads
it. -/
theorem reportsHaveNoInfluence : Obligations.ReportsHaveNoInfluence := by
  intro s o
  obtain hf | ⟨e, hf⟩ := Option.eq_none_or_eq_some s.fault
  · obtain hh | hh := Bool.eq_false_or_eq_true s.halt
    · rw [step_of_halted hf hh, step_of_halted (s := { s with out := o }) hf hh]
    · rw [step_of_running hf hh, step_of_running (s := { s with out := o }) hf hh]
      exact exec_withOut (fetchInstr s) s o
  · rw [step_of_stopped hf, step_of_stopped (s := { s with out := o }) hf]

end
